-- ==== Sys2Proof/Word.lean ====
section
/-! DEFINITION. The words and index ranges of the TG4160 (00, "Index ranges used throughout"). -/

namespace Sys2Proof

/-- One byte of the register window (11, R178). -/
abbrev Byte := BitVec 8

/-- One word of the configuration image (12, R183). -/
abbrev ImageWord := BitVec 16

/-- A backplane address, 40 bits (00; 03 R43). -/
abbrev Address := BitVec 40

/-- A generation, 16 bits (01 R13). -/
abbrev Generation := BitVec 16

/-- Entry index 0..4095, which is the page index too (01 R3, R5). -/
abbrev EntryIx := Fin 4096

/-- Group 0..127 (01 R10). -/
abbrev Group := Fin 128

/-- Requester id 0..15 (02 R23). -/
abbrev ReqId := Fin 16

/-- Domain 0..7 (02 R26). -/
abbrev Domain := Fin 8

/-- Claim tag 0..63 (04 R65). -/
abbrev Tag := Fin 64

/-- Pending slot number 0..7 (05 R83). -/
abbrev SlotIx := Fin 8

/-- A point of time, in ns since power was first applied (log 2). -/
abbrev Time := Nat

end Sys2Proof
end

