-- ==== Sys2Proof/Syntax.lean ====
section
/-! DEFINITION. The commands of the TG4160, one constructor of `Instr` for each row of spec/opcode_table.json, and the
data types their operands are made of. -/

namespace Sys2Proof

/-- The access an entry allows (01 R5). -/
inductive Access where
  | readOnly
  | readWrite
  deriving DecidableEq, Repr, Inhabited

/-- How an access is snooped (01 R5; 03 R51). -/
inductive Snoop where
  | snooped
  | direct
  deriving DecidableEq, Repr, Inhabited

/-- The access a RESOLVE asks for, and the access a claim was taken for (03 R43, 04 R65). -/
inductive Dir where
  | read
  | write
  deriving DecidableEq, Repr, Inhabited

/-- The four fields an entry has in LIVE and REVOKING and in no other state (01 R5). Bit d of `domains` says that
domain d is in the domain set. -/
structure Placement where
  frame : BitVec 24
  access : Access
  snoop : Snoop
  domains : BitVec 8
  deriving DecidableEq, Repr, Inhabited

/-- The covered fields of a grant entry: its state, and the placement where the state has one (01 R5 to R9). -/
inductive Contents where
  | vacant
  | live (p : Placement)
  | revoking (p : Placement)
  | poisoned
  deriving DecidableEq, Repr, Inhabited

/-- One grant entry as stored (01 R5): covered fields, claim count 0..64, generation, and the parity bit. -/
structure GrantEntry where
  contents : Contents
  claimCount : Fin 65
  generation : Generation
  parity : Bool
  deriving DecidableEq, Repr, Inhabited

/-- The two serial management interfaces (11 R175). -/
inductive Interface where
  | i2c
  | spi
  deriving DecidableEq, Repr, Inhabited

/-- The bus a management byte travels on; an I2C byte belongs to a transaction with one device address (11 R175, R176). -/
inductive Bus where
  | i2c (device : BitVec 7)
  | spi
  deriving DecidableEq, Repr, Inhabited

/-- The bus a byte is read on; on I2C the master acknowledges each byte it is sent or does not, on SPI there is no such bit (11
R176, R177). -/
inductive ReadBus where
  | i2c (device : BitVec 7) (acknowledged : Bool)
  | spi
  deriving DecidableEq, Repr, Inhabited

/-- What the board gives the part: the strap levels (true = high) and the attached serial NVM (11 R175, 12 R183). `nvm`
lists what the NVM holds at each load after power-on, in order, byte by byte from byte address 0; the last stays for the
loads after it. An NVM that holds nothing does not answer (log 4). -/
structure Board where
  ifsel : Bool
  addr : BitVec 2
  nvm : List (List Byte)
  deriving DecidableEq, Repr, Inhabited

/-- The commands and events the part takes, one constructor per row of spec/opcode_table.json. -/
inductive Instr where
  -- Resolve Port (03)
  /-- RESOLVE: the bridge presents a RESOLVE request (R48). -/
  | resolve (requester : ReqId) (address : Address) (dir : Dir) (claim : Bool)
  /-- RELEASE: the bridge presents a RELEASE of a claim tag (R71). -/
  | release (requester : ReqId) (tag : Tag)
  /-- SLOT_RESET: the bridge presents a SLOT_RESET (R63). -/
  | slotReset (requester : ReqId)
  /-- MALFORMED_REQUEST: a request whose kind code is 0 or 4..7 (R44). -/
  | malformedRequest (kind : BitVec 3)
  /-- RSP_TAKEN: the bridge takes the response (R41). -/
  | rspTaken
  -- Requester Table, timers (02, 05, 07)
  /-- REQUESTER_CLEARING_FREE: one record of the requester under clearing is freed (R38). -/
  | requesterClearingFree (requester : ReqId)
  /-- REQUESTER_CLEARING_COMPLETION: the clearing of the requester completes (R39). -/
  | requesterClearingCompletion (requester : ReqId)
  /-- QUARANTINE_DEADLINE_EXPIRY: the requester's quarantine deadline expires (R32). -/
  | quarantineDeadlineExpiry (requester : ReqId)
  /-- DISCARD_DEADLINE_EXPIRY: the slot's discard deadline expires (R93). -/
  | discardDeadlineExpiry (slot : SlotIx)
  /-- DRAIN_EXPIRY: the deadline of the Drain List item at the position passes (R132). -/
  | drainExpiry (position : Fin 16)
  -- commit work (06)
  /-- COMMIT_VALIDATION: the next op is read and judged (R112). -/
  | commitValidation
  /-- COMMIT_APPLICATION: the next validated op is written (R117). -/
  | commitApplication
  /-- COMMIT_COMPLETION: the commit completes (R121). -/
  | commitCompletion
  -- walks (09)
  /-- SWEEP_STEP: a domain sweep takes its next step (R153). -/
  | sweepStep
  /-- SCRUB_STEP: a scrub takes its next step (R156). -/
  | scrubStep
  /-- SWEEP_RETAKE: a waiting Sweep Engine retakes its entry (R154). -/
  | sweepRetake
  -- start-up and resets (12)
  /-- IMAGE_LOAD_DONE: the load of the configuration image finishes (R187). -/
  | imageLoadDone
  /-- PRELOAD_RELOAD_DONE: the preload reload of a table reset finishes (R189). -/
  | preloadReloadDone
  /-- POWER_ON: power is applied on a board with these straps and this NVM (R187). -/
  | powerOn (board : Board)
  /-- RESET_ASSERT: the RESET line goes low (R187). -/
  | resetAssert
  /-- RESET_RELEASE: the RESET line is released (R187). -/
  | resetRelease
  -- host commands: the write of the command's code to the command register; operands stand in the operand bytes (R181)
  | batchOpen
  | batchLoad
  | batchCommit
  | batchDiscard
  | freezeGroup
  | thawGroup
  | freezeAll
  | freezeRange
  | domainSweep
  | scrub
  | sweepSuspend
  | sweepResume
  | sweepCancel
  | forceDrain
  | domainSet
  | requesterSet
  | requesterReset
  | clearErrors
  | tableReset
  | fullReset
  | readEntry
  | readClaim
  | readPending
  | readDrain
  | readRequester
  | readSweepResult
  | readCommitResult
  /-- UNDEFINED_COMMAND_CODE: the write of a code that is in no row of the command table (R181). -/
  | undefinedCommandCode (code : Byte)
  -- the register window (10, 11)
  /-- EVENT_REGISTER_READ: the byte at the event register is read (R171). -/
  | eventRegisterRead (bus : ReadBus)
  /-- ALERT_ASSERTED_CLEAR: a byte with bit 0 set is written to the ALERT control byte (R173). -/
  | alertAssertedClear (value : Byte)
  /-- OVERRIDE_CLEAR: a byte with bit 1 set is written to the ALERT control byte (R173). -/
  | overrideClear (value : Byte)
  /-- OVERRIDE_SET: a byte with bit 2 set is written to the ALERT control byte (R173). -/
  | overrideSet (value : Byte)
  /-- SINGLE_BYTE_SETTING_WRITE: a byte is written to a single-byte setting or the event enables (R180). -/
  | singleByteSettingWrite (value : Byte)
  /-- SETTING_LOWER_BYTE_WRITE: a byte is written to the lower byte of a two-byte setting (R180). -/
  | settingLowerByteWrite (value : Byte)
  /-- SETTING_HIGHER_BYTE_WRITE: a byte is written to the higher byte of a two-byte setting (R180). -/
  | settingHigherByteWrite (value : Byte)
  /-- MULTI_BYTE_CAPTURE_READ: the byte at the pointer is read, a multi-byte value being captured at its lowest byte (R177). -/
  | multiByteCaptureRead (bus : ReadBus)
  /-- POINTER_SET: the first byte of an I2C write or of an SPI transaction (R176, R177). -/
  | pointerSet (bus : Bus) (value : Byte)
  /-- REGISTER_WRITE: a byte is written at the pointer (R178). -/
  | registerWrite (bus : Bus) (value : Byte)
  /-- STORAGE_DAMAGE: what is stored for the entry becomes this, without any block writing it (R20). -/
  | storageDamage (entry : EntryIx) (stored : GrantEntry)
  /-- TRANSACTION_END: an I2C stop or start condition, or SPI select rising (R176, R177). -/
  | transactionEnd (iface : Interface)
  deriving DecidableEq, Repr, Inhabited

end Sys2Proof
end

