-- ==== Sys2Proof/Config.lean ====
section
/-! DEFINITION. What the spec leaves open: the free values. None of these constants has a body: nothing can be proved of
the value it takes, so a claim that holds, holds whatever the hardware does there. Each is applied to the counter
`State.free`, which the step advances, so that two uses need not agree. -/

namespace Sys2Proof.Config

/-- FREE VALUE (log 6). The claim count after an event that lowers a count of 0 or raises a count of 64. Both need
storage damage to the count first (01 R20); the spec says "falls by 1" and "rises by 1" and gives no result there. -/
opaque claimCount : Nat → Fin 65

/-- The five counts of a commit (06 R117). -/
inductive Tallied where
  | installed
  | amended
  | vacated
  | draining
  | passed
  deriving DecidableEq, Repr, Inhabited

/-- FREE VALUE (log 7). The count an application adds to when the Drain Unit refuses it an item. 07 R127 says that a
commit does not meet the refusal; after storage damage to a claim count it can. -/
opaque refusedTally : Nat → Tallied

/-- FREE VALUE (log 5). Whether the Image Loader takes its next piece of the load in this ns: "The work takes as long as
the NVM reads take" (12 R187). -/
opaque loaderAdvances : Nat → Bool

/-- FREE VALUE (log 2). Which of several deadlines due at one time is taken first: "either may be taken first"
(07 R135). -/
opaque tieBreak : Nat → Nat

end Sys2Proof.Config
end

