-- ==== Sys2Proof/Machine/State.lean ====
section
/-! DEFINITION. The state of the TG4160, block by block as 00's block table lists it, its value right after power-on, and
the reasons a step could stop. Every field is plain data. -/

namespace Sys2Proof.Machine

/-! ### Table Store (01) -/

/-- 4 KiB or 64 KiB pages (R1). -/
inductive PageSize where
  | k4
  | k64
  deriving DecidableEq, Repr, Inhabited

/-- A cleared entry: VACANT, claim count 0, generation 0, parity made over the state code VACANT (R22). It is what an
index that the table does not list reads as. -/
def clearedEntry : GrantEntry := ⟨.vacant, 0, 0#16, false⟩

/-- The Grant Table as (index, entry) pairs, indices rising, no entry equal to `clearedEntry`. -/
abbrev Table := List (Nat × GrantEntry)

/-- The Table Store: window geometry (R1, R2), the 4096 entries (R5), the lock mark (R11). -/
structure TableStore where
  pageSize : PageSize
  base : Address
  entries : Table
  lockMark : Option Group
  deriving DecidableEq, Repr, Inhabited

/-! ### Resolve Unit (03) -/

/-- The reasons of DENIED (R45). -/
inductive DenyReason where
  | reqDisabled
  | quarantined
  | vacant
  | revoking
  | domain
  | access
  | claimLimit
  deriving DecidableEq, Repr, Inhabited

/-- The reasons of RETRY (R45). -/
inductive RetryReason where
  | starting
  | queued
  | pending
  | queueFull
  | claimFull
  deriving DecidableEq, Repr, Inhabited

/-- An outcome with its reason (R45). -/
inductive Verdict where
  | granted
  | passed
  | denied (r : DenyReason)
  | retry (r : RetryReason)
  | faultedParity
  | faultedPoisoned
  | released
  | releasedLate
  | refusedUnknownTag
  | refusedForeignTag
  | refusedMalformed
  | acked
  deriving DecidableEq, Repr, Inhabited

/-- A response: the verdict, and each field some outcomes omit (R43, R46). Snoop and address are present together. -/
structure Response where
  verdict : Verdict
  place : Option (Snoop × Address)
  generation : Option Generation
  tag : Option Tag
  entry : Option EntryIx
  deriving DecidableEq, Repr, Inhabited

/-- The three states of the Resolve Port (R41). RSP_STROBE is raised exactly in ANSWERED. -/
inductive PortState where
  | ready
  | holding (requester : ReqId)
  | answered (response : Response)
  deriving DecidableEq, Repr, Inhabited

/-! ### Requester Table (02) -/

inductive ReqStanding where
  | disabled
  | enabled
  | quarantined
  deriving DecidableEq, Repr, Inhabited

/-- How a requester clearing ends (R36). -/
inductive Clearing where
  | toDefaults
  | toDisabled (domain : Domain) (limit : Fin 65)
  deriving DecidableEq, Repr, Inhabited

/-- A live requester record (R23). -/
structure Requester where
  standing : ReqStanding
  domain : Domain
  limit : Fin 65
  faults : Fin 16
  deadline : Option Time
  clearing : Option Clearing
  deriving DecidableEq, Repr, Inhabited

/-- A Requester Defaults record (R25): `enabled` is its state, ENABLED or DISABLED. -/
structure RequesterDefault where
  enabled : Bool
  domain : Domain
  limit : Fin 65
  deriving DecidableEq, Repr, Inhabited

/-- A domain record (R26): `pass` is the miss policy PASS, `closing` the sweep state CLOSING. -/
structure DomainRecord where
  pass : Bool
  closing : Bool
  deriving DecidableEq, Repr, Inhabited

structure RequesterTable where
  live : Vector Requester 16
  defaults : Vector RequesterDefault 16
  domains : Vector DomainRecord 8
  deriving DecidableEq, Repr, Inhabited

/-! ### Claim Unit (04) -/

/-- What a claim record in use holds (R65). -/
structure Claim where
  requester : ReqId
  entry : EntryIx
  generation : Generation
  dir : Dir
  deriving DecidableEq, Repr, Inhabited

inductive ClaimRecord where
  | free
  | active (c : Claim)
  | orphaned (c : Claim)
  deriving DecidableEq, Repr, Inhabited

abbrev ClaimRegister := Vector ClaimRecord 64

/-! ### Pending Resolve Queue (05) -/

/-- The request a slot holds (R83). -/
structure Request where
  requester : ReqId
  address : Address
  dir : Dir
  claim : Bool
  deriving DecidableEq, Repr, Inhabited

/-- A pending slot (R83). The claim tag of a READY slot is its answer's tag. -/
inductive Slot where
  | empty
  | waiting (request : Request) (page : EntryIx)
  | ready (request : Request) (page : EntryIx) (answer : Response) (deadline : Time)
  deriving DecidableEq, Repr, Inhabited

abbrev PendingQueue := Vector Slot 8

/-! ### Batch Unit (06) -/

/-- One op of a batch (R102). -/
inductive BatchOp where
  | install (entry : EntryIx) (placement : Placement) (badParity : Bool)
  | amend (entry : EntryIx) (access : Option Access) (snoop : Option Snoop) (domains : Option (BitVec 8)) (badParity : Bool)
  | revoke (entry : EntryIx)
  deriving DecidableEq, Repr, Inhabited

/-- The validated copy kept beside an op: what validation read (R102). -/
structure ValidatedCopy where
  contents : Contents
  claimCount : Fin 65
  deriving DecidableEq, Repr, Inhabited

/-- The five counts of a commit (R117). -/
structure Tally where
  installed : Nat
  amended : Nat
  vacated : Nat
  draining : Nat
  passed : Nat
  deriving DecidableEq, Repr, Inhabited

/-- The Staging Buffer (R101). In COMMITTING, `copies` are the validated copies of the ops validated so far, in load
order, and `applied` is the number of ops applied so far. -/
inductive Staging where
  | idle
  | loading (group : Group) (declared : Nat) (ops : List BatchOp)
  | loaded (group : Group) (declared : Nat) (ops : List BatchOp)
  | committing (group : Group) (declared : Nat) (ops : List BatchOp) (copies : List ValidatedCopy) (applied : Nat)
      (tally : Tally)
  deriving DecidableEq, Repr, Inhabited

/-- Abort reasons (R106). -/
inductive AbortReason where
  | count
  | outside
  | overflow
  | short
  | interrupted
  | duplicate
  deriving DecidableEq, Repr, Inhabited

/-- Rejection reasons (R116). -/
inductive RejectReason where
  | notVacant
  | claimed
  | emptySet
  | domainClosing
  | notLive
  | noFields
  | drainFull
  | protectedGroup
  deriving DecidableEq, Repr, Inhabited

/-- The Commit Result record (R122). -/
inductive CommitResult where
  | none
  | inProgress (group : Group) (ops : Nat)
  | ok (group : Group) (ops : Nat) (tally : Tally)
  | rejected (group : Group) (ops : Nat) (reason : RejectReason) (entry : EntryIx) (position : Nat)
  | protectedGroup (group : Group)
  | abandoned (group : Group) (ops : Nat)
  deriving DecidableEq, Repr, Inhabited

/-- The Batch Unit. STAGE_ABORT is SET exactly while `abort` holds its reason (R101). -/
structure BatchUnit where
  staging : Staging
  abort : Option AbortReason
  result : CommitResult
  deriving DecidableEq, Repr, Inhabited

/-! ### Drain Unit (07) -/

/-- One Drain List item (R125). -/
structure DrainItem where
  entry : EntryIx
  deadline : Option Time
  deriving DecidableEq, Repr, Inhabited

/-- The Drain List, oldest item first (R125). -/
abbrev DrainList := List DrainItem

/-! ### Freeze Map (08) -/

structure FreezeRange where
  lower : Group
  upper : Group
  deriving DecidableEq, Repr, Inhabited

/-- The Freeze Map (R138): bit g of `marks` is the freeze mark of group g. -/
structure FreezeMap where
  marks : BitVec 128
  range : Option FreezeRange
  rangeUsed : Bool
  deriving DecidableEq, Repr, Inhabited

/-! ### Sweep Engine (09) -/

/-- The states of a walk; IDLE is the absence of a walk (R148). -/
inductive WalkState where
  | running
  | waitingDrain
  | suspending (cancelRequested : Bool)
  | suspended
  deriving DecidableEq, Repr, Inhabited

inductive WalkKind where
  | domainSweep (domain : Domain)
  | scrub
  deriving DecidableEq, Repr, Inhabited

/-- A walk in progress (R148). -/
structure Walk where
  state : WalkState
  kind : WalkKind
  cursor : EntryIx
  deriving DecidableEq, Repr, Inhabited

inductive WalkEnd where
  | inProgress
  | complete
  | cancelled
  deriving DecidableEq, Repr, Inhabited

/-- The counts only a domain sweep has (R162). -/
structure SweepCounts where
  changed : Nat
  vacated : Nat
  draining : Nat
  skipped : Nat
  deriving DecidableEq, Repr, Inhabited

/-- The kind of the walk a Sweep Result reports, with the fields only that kind has (R162). -/
inductive SweepSubject where
  | domainSweep (domain : Domain) (counts : SweepCounts)
  | scrub
  deriving DecidableEq, Repr, Inhabited

/-- A Sweep Result whose end is not NONE (R162). -/
structure SweepReport where
  ending : WalkEnd
  subject : SweepSubject
  poisoned : Nat
  cursor : Nat
  deriving DecidableEq, Repr, Inhabited

/-- The Sweep Engine: no walk is IDLE, no report is the end NONE (R148, R162). -/
structure SweepEngine where
  walk : Option Walk
  result : Option SweepReport
  deriving DecidableEq, Repr, Inhabited

/-! ### Error Unit (10) -/

/-- Which read found a damaged entry (01 R16, R164). -/
inductive Finder where
  | resolve
  | commit
  | sweep
  | scrub
  | hostRead
  deriving DecidableEq, Repr, Inhabited

/-- The seven fault kinds (02 R28). -/
inductive FaultKind where
  | domain
  | access
  | claimLimit
  | vacant
  | unknownTag
  | foreignTag
  | discard
  deriving DecidableEq, Repr, Inhabited

/-- The image parts an IMAGE error names (R164). -/
inductive ImageItem where
  | header
  | control
  | requester
  | preload
  | freeze
  deriving DecidableEq, Repr, Inhabited

/-- An error: its kind and the detail fields the kind carries (R164). -/
inductive ErrorRecord where
  | parity (entry : EntryIx) (finder : Finder)
  | discard (requester : ReqId) (slot : SlotIx)
  | drainExpired (entry : EntryIx) (count : Nat)
  | batchAbort (reason : AbortReason)
  | commitReject (reason : RejectReason) (entry : Option EntryIx)
  | requesterFault (requester : ReqId) (kind : FaultKind)
  | quarantine (requester : ReqId)
  | portProtocol (kind : BitVec 3)
  | image (item : ImageItem) (count : Option Nat)
  deriving DecidableEq, Repr, Inhabited

/-- The five event kinds (R170). -/
inductive EventKind where
  | commitDone
  | sweepDone
  | drainDone
  | bootDone
  | quarantineEnd
  deriving DecidableEq, Repr, Inhabited

/-- The Error Unit (R165, R170, R172). Bit k-1 of `next` is the Next Error flag of kind code k; `events` has the bits of
the event register. -/
structure ErrorUnit where
  first : Option ErrorRecord
  next : BitVec 9
  events : BitVec 5
  override : Bool
  alertAsserted : Bool
  deriving DecidableEq, Repr, Inhabited

/-! ### Settings (11 R180) -/

inductive DiscardTime where
  | us16
  | us64
  | us256
  | us1024
  deriving DecidableEq, Repr, Inhabited

inductive DrainTime where
  | ms1
  | ms4
  | ms16
  | ms64
  | unlimited
  deriving DecidableEq, Repr, Inhabited

inductive QuarantineTime where
  | ms1
  | ms10
  | ms100
  | ms1000
  deriving DecidableEq, Repr, Inhabited

/-- The settings, and the shadows of the two two-byte ones (R180). Masks, routes and enables are bit fields there. -/
structure Settings where
  snoop : Snoop
  discardTime : DiscardTime
  drainTime : DrainTime
  quarantineTime : QuarantineTime
  threshold : BitVec 4
  masks : BitVec 7
  routeInt : BitVec 9
  routeAlert : BitVec 9
  enables : BitVec 5
  shadowInt : Byte
  shadowAlert : Byte
  deriving DecidableEq, Repr, Inhabited

/-! ### Management Port (11) -/

/-- The transaction on the selected interface (R176, R177): none; one whose next bytes are written; one whose bytes are
read; an I2C read that the master has ended by a not-acknowledge, in which the part sends no more and waits for a stop or a
start condition (R176); one whose further bytes are not taken, because a full reset began in it (R181). -/
inductive Transaction where
  | none
  | writing
  | reading
  | stopped
  | cutOff
  deriving DecidableEq, Repr, Inhabited

/-- The multi-byte values captured in this transaction (R177). -/
structure Captures where
  cursor : Option (BitVec 16)
  freezeMarks : Option (BitVec 128)
  firstError : Option (BitVec 48)
  nextErrors : Option (BitVec 16)
  base : Option (BitVec 40)
  deriving DecidableEq, Repr, Inhabited

/-- Command status codes (R178). -/
inductive CommandStatus where
  | none
  | done
  | refused
  | busyStarted
  deriving DecidableEq, Repr, Inhabited

/-- Refusal reasons (R181). -/
inductive RefusalReason where
  | busy
  | badOperand
  | noBatch
  | notRunning
  | notSuspended
  | notRevoking
  | inRange
  | alreadySet
  | starting
  deriving DecidableEq, Repr, Inhabited

/-- The Management Port. `sent` is the byte the part sent last in the transaction in progress. -/
structure ManagementPort where
  mode : Interface
  device : BitVec 7
  pointer : BitVec 7
  transaction : Transaction
  captures : Captures
  sent : Option Byte
  operands : Vector Byte 12
  status : CommandStatus
  reason : Option RefusalReason
  results : Vector Byte 32
  deriving DecidableEq, Repr, Inhabited

/-! ### Image Loader (12) -/

inductive Phase where
  | loading
  | reloading
  | running
  deriving DecidableEq, Repr, Inhabited

/-- The image status flags, in the bit order of address 0x04 (R187). -/
structure ImageFlags where
  headerFail : Bool
  controlFallback : Bool
  controlSkipped : Bool
  requesterSkipped : Bool
  preloadSkipped : Bool
  freezeSkipped : Bool
  deriving DecidableEq, Repr, Inhabited

/-- Where the captured Preload section lies: the word offset of its length word, and its length (R186). -/
structure PreloadPlace where
  offset : Nat
  length : Nat
  deriving DecidableEq, Repr, Inhabited

/-- What the Image Loader has still to do (R183 to R189). `preload` is inside the Preload section: the words not yet
taken, the indices installed by this read, the records skipped so far. -/
inductive LoadWork where
  | nothing
  | check
  | control
  | requester
  | preloadStart
  | preload (rest : List ImageWord) (installed : List Nat) (skipped : Nat)
  | freeze
  | finish
  deriving DecidableEq, Repr, Inhabited

structure ImageLoader where
  phase : Phase
  flags : ImageFlags
  capture : Option PreloadPlace
  work : LoadWork
  deriving DecidableEq, Repr, Inhabited

/-! ### The whole part -/

/-- The state of the part, one field per block of 00's block table; then the board and the RESET line; then the model's own
fields: the number of loads begun since power-on (log 4), the time in ns, the counter of free values used, the queue of
commands. -/
structure State where
  store : TableStore
  port : PortState
  requesters : RequesterTable
  claims : ClaimRegister
  queue : PendingQueue
  batch : BatchUnit
  drain : DrainList
  freeze : FreezeMap
  sweep : SweepEngine
  errors : ErrorUnit
  settings : Settings
  mgmt : ManagementPort
  loader : ImageLoader
  board : Board
  resetLow : Bool
  loads : Nat
  now : Time
  free : Nat
  pending : List Instr
  deriving DecidableEq, Repr, Inhabited

/-- The reasons a step could stop the machine with a fault. There are none: "The part does not stop for any of these"
(10). No meaning raises a fault, so the type is empty. -/
inductive Fault
  deriving DecidableEq, Repr

/-- The reasons a step could have no meaning. -/
inductive Refusal where
  /-- Raised by an arm of `exec` for a row that has no meaning yet, and by nothing else. Safe. No arm is left that raises
  it. -/
  | notModelled (mnemonic : String)
  deriving DecidableEq, Repr

/-! ### Values at the start of a full reset -/

/-- The start of a full reset: R1, R2, R11, R22, R187. -/
def TableStore.reset : TableStore := ⟨.k4, 0#40, [], none⟩

/-- A requester record until the Requester section is taken (R187). -/
def Requester.reset : Requester := ⟨.disabled, 0, 0, 0, none, none⟩

/-- A Requester Defaults record until the Requester section is taken, and for an id it does not name (R25, R187). -/
def RequesterDefault.reset : RequesterDefault := ⟨false, 0, 0⟩

/-- Miss policy DENY, sweep state OPEN (R26, R27, R187). -/
def DomainRecord.reset : DomainRecord := ⟨false, false⟩

def RequesterTable.reset : RequesterTable :=
  ⟨Vector.replicate 16 Requester.reset, Vector.replicate 16 RequesterDefault.reset, Vector.replicate 8 DomainRecord.reset⟩

/-- Every record FREE (R66). -/
def ClaimRegister.reset : ClaimRegister := Vector.replicate 64 .free

/-- Every slot EMPTY (R83). -/
def PendingQueue.reset : PendingQueue := Vector.replicate 8 .empty

/-- R101, R124; the Commit Result takes the value R122 gives it. -/
def BatchUnit.reset (result : CommitResult) : BatchUnit := ⟨.idle, none, result⟩

/-- R139. -/
def FreezeMap.reset : FreezeMap := ⟨0#128, none, false⟩

/-- R148, R162. -/
def SweepEngine.reset : SweepEngine := ⟨none, none⟩

/-- R174. -/
def ErrorUnit.reset : ErrorUnit := ⟨none, 0#9, 0#5, true, false⟩

/-- The defaults of R180; shadows DESIGN CHOICE 0x00 until RUNNING (log 16). -/
def Settings.reset : Settings := ⟨.snooped, .us256, .ms16, .ms100, 8#4, 0#7, 0#9, 0#9, 0#5, 0#8, 0#8⟩

def Captures.none : Captures := ⟨.none, .none, .none, .none, .none⟩

/-- R175, R181: the straps are sampled, pointer, operands, results, status and reason are 0. -/
def ManagementPort.reset (board : Board) (transaction : Transaction) : ManagementPort :=
  { mode := if board.ifsel then .spi else .i2c
    device := 0x2C#7 + board.addr.setWidth 7
    pointer := 0#7
    transaction := transaction
    captures := Captures.none
    sent := none
    operands := Vector.replicate 12 0#8
    status := .none
    reason := none
    results := Vector.replicate 32 0#8 }

def ImageFlags.reset : ImageFlags := ⟨false, false, false, false, false, false⟩

/-- R187: phase LOADING, flags clear, the first pass to be made. -/
def ImageLoader.reset : ImageLoader := ⟨.loading, ImageFlags.reset, none, .check⟩

/-- The board of `State.reset`: straps low, an NVM that does not answer. DESIGN CHOICE (log 3). -/
def Board.reset : Board := ⟨false, 0#2, []⟩

/-- The part right after power-on (R187): every block at its full-reset values, phase LOADING. -/
def State.reset : State :=
  { store := TableStore.reset
    port := .ready
    requesters := RequesterTable.reset
    claims := ClaimRegister.reset
    queue := PendingQueue.reset
    batch := BatchUnit.reset .none
    drain := []
    freeze := FreezeMap.reset
    sweep := SweepEngine.reset
    errors := ErrorUnit.reset
    settings := Settings.reset
    mgmt := ManagementPort.reset Board.reset .none
    loader := ImageLoader.reset
    board := Board.reset
    resetLow := false
    loads := 0
    now := 0
    free := 0
    pending := [] }

end Sys2Proof.Machine
end

