-- ==== Sys2Proof/Machine/Bits.lean ====
section
/-! DEFINITION. Bits, bytes and index arithmetic: the helpers the other files share. -/

namespace Sys2Proof.Machine

/-- The vector whose element at `i` is `g i`. -/
def tabulate {α : Type} {n : Nat} (g : Fin n → α) : Vector α n := ⟨⟨(List.finRange n).map g⟩, by simp⟩

/-- Whether the number of ones is odd: the value that makes the number of ones even (01 R15). -/
def oddOnes {w : Nat} (v : BitVec w) : Bool := (List.range w).foldl (fun b i => b ^^ v.getLsbD i) false

/-- How many bits are 1. -/
def countOnes {w : Nat} (v : BitVec w) : Nat := (List.range w).countP (fun i => v.getLsbD i)

/-- The byte whose bit k is `b` and whose other bits are 0. -/
def bitAt (k : Nat) (b : Bool) : Byte := if b then 1#8 <<< k else 0#8

/-- `n` bytes of `v`, least significant byte first (11 R178). -/
def leBytes : Nat → Nat → List Byte
  | 0, _ => []
  | n + 1, v => BitVec.ofNat 8 v :: leBytes n (v / 256)

/-- Byte k of a value stored least significant byte first (11 R178). -/
def byteOf (k v : Nat) : Byte := BitVec.ofNat 8 (v / 256 ^ k)

/-- An optional number as bytes: an absent field reads 0 (11 R178, R182). -/
def leOption (n : Nat) (v : Option Nat) : List Byte := leBytes n (v.getD 0)

/-- The entry index of a number below 4096. -/
def entryIxOf (n : Nat) : EntryIx := Fin.ofNat 4096 n

/-- The group of an entry: its index divided by 32, rounded down (01 R3, R10). -/
def groupOf (i : EntryIx) : Group := ⟨i.val / 32, by omega⟩

/-- The position of an entry in its group (01 R3, R10). -/
def positionOf (i : EntryIx) : Nat := i.val % 32

/-- The number as an index below `n`, if it is one. -/
def indexBelow (n v : Nat) : Option (Fin n) := if h : v < n then some ⟨v, h⟩ else none

/-- Whether the domain is in the domain set (01 R5). -/
def inSet (d : Domain) (domains : BitVec 8) : Bool := domains.getLsbD d.val

/-- The domain set without the domain (09 R153). -/
def withoutDomain (d : Domain) (domains : BitVec 8) : BitVec 8 := domains &&& ~~~(1#8 <<< d.val)

end Sys2Proof.Machine
end

