-- ==== Sys2Proof/Machine/Flags.lean ====
section
/-! DEFINITION. The Error Unit: how an error is recorded, how an event is raised, and the levels of INT and ALERT
(10 R164 to R174); the byte of the image status flags (12 R187). -/

namespace Sys2Proof.Machine

/-- The code of an error's kind (R164). -/
def errorCode : ErrorRecord → Nat
  | .parity _ _ => 1
  | .discard _ _ => 2
  | .drainExpired _ _ => 3
  | .batchAbort _ => 4
  | .commitReject _ _ => 5
  | .requesterFault _ _ => 6
  | .quarantine _ => 7
  | .portProtocol _ => 8
  | .image _ _ => 9

/-- The flag of an error's kind: bit k-1 for kind code k (11 R178, R180). -/
def errorBit (e : ErrorRecord) : BitVec 9 := 1#9 <<< (errorCode e - 1)

/-- The bit of an event kind in the event register (11 R178). -/
def eventBit : EventKind → BitVec 5
  | .commitDone => 0b00001#5
  | .sweepDone => 0b00010#5
  | .drainDone => 0b00100#5
  | .bootDone => 0b01000#5
  | .quarantineEnd => 0b10000#5

/-- The code of a fault kind (R164). -/
def faultCode : FaultKind → Nat
  | .domain => 1
  | .access => 2
  | .claimLimit => 3
  | .vacant => 4
  | .unknownTag => 5
  | .foreignTag => 6
  | .discard => 7

/-- Whether an error of this kind is routed to ALERT (R168). -/
def routedToAlert (st : Settings) (e : ErrorRecord) : Bool := st.routeAlert &&& errorBit e != 0#9

/-- Recording an error: it fills an empty First Error record, else it sets its kind's flag (R165). An error routed to
ALERT that finds the override CLEAR sets ALERT_ASSERTED and the override (R172). -/
def recordError (st : Settings) (e : ErrorRecord) (u : ErrorUnit) : ErrorUnit :=
  { u with
    first := some (u.first.getD e)
    next := if u.first.isSome then u.next ||| errorBit e else u.next
    alertAsserted := u.alertAsserted || (routedToAlert st e && !u.override)
    override := u.override || routedToAlert st e }

/-- Raising an event sets its flag, whatever the enable (R170). -/
def raiseEvent (k : EventKind) (u : ErrorUnit) : ErrorUnit := { u with events := u.events ||| eventBit k }

/-- CLEAR_ERRORS: the First Error record and the Next Error set are emptied (R166). -/
def clearErrorRecords (u : ErrorUnit) : ErrorUnit := { u with first := none, next := 0#9 }

/-- A write of the ALERT control byte (R173; bits 3 to 7 are ignored, log 24): bit 0 clears ALERT_ASSERTED, bit 1 clears the override, bit 2 sets it, and a
byte with both override bits leaves the override as it stands. -/
def writeAlertControl (v : Byte) (u : ErrorUnit) : ErrorUnit :=
  { u with
    alertAsserted := u.alertAsserted && !v.getLsbD 0
    override :=
      if v.getLsbD 1 = v.getLsbD 2 then u.override
      else v.getLsbD 2 }

/-- The ALERT control byte as read: both marks, bit 2 zero (11 R178); bits 3 to 7, which the spec does not give, read 0:
DESIGN CHOICE (log 24). -/
def alertControlByte (u : ErrorUnit) : Byte := bitAt 0 u.alertAsserted ||| bitAt 1 u.override

/-- INT is driven low while a held error's kind is routed to INT, a Next Error flag of a routed kind is SET, or an enabled
event flag is SET (R169). -/
def intDriven (st : Settings) (u : ErrorUnit) : Bool :=
  (match u.first with
    | some e => st.routeInt &&& errorBit e != 0#9
    | none => false)
  || (u.next &&& st.routeInt != 0#9)
  || (u.events &&& st.enables != 0#5)

/-- The INT line is low (R169). -/
def State.intLow (s : State) : Bool := intDriven s.settings s.errors

/-- The ALERT line is low exactly while ALERT_ASSERTED is SET (R172). -/
def State.alertLow (s : State) : Bool := s.errors.alertAsserted

/-- A block reports an error (R165). -/
def State.report (e : ErrorRecord) (s : State) : State := { s with errors := recordError s.settings e s.errors }

/-- A block raises an event (R170). -/
def State.raise (k : EventKind) (s : State) : State := { s with errors := raiseEvent k s.errors }

/-- The image status byte, address 0x04 (12 R187): HEADER_FAIL, CONTROL_FALLBACK, CONTROL_SKIPPED, REQUESTER_SKIPPED,
PRELOAD_SKIPPED, FREEZE_SKIPPED in bits 0 to 5. -/
def imageFlagsByte (f : ImageFlags) : Byte :=
  bitAt 0 f.headerFail ||| bitAt 1 f.controlFallback ||| bitAt 2 f.controlSkipped ||| bitAt 3 f.requesterSkipped |||
    bitAt 4 f.preloadSkipped ||| bitAt 5 f.freezeSkipped

end Sys2Proof.Machine
end

