-- ==== Sys2Proof/Machine/Operands.lean ====
section
/-! DEFINITION. Codes and layouts: the codes of the fields a response, a result or a register shows (03 R45, 11 R178 to
R182), the meaning of setting codes, and how a command reads its operand bytes (11 R181). -/

namespace Sys2Proof.Machine

/-! ### Codes of fields -/

def accessCode : Access → Nat
  | .readOnly => 0
  | .readWrite => 1

def snoopCode : Snoop → Nat
  | .snooped => 0
  | .direct => 1

def dirCode : Dir → Nat
  | .read => 0
  | .write => 1

/-- State codes of an entry (01 R15). -/
def contentsCode : Contents → Nat
  | .vacant => 0
  | .live _ => 1
  | .revoking _ => 2
  | .poisoned => 3

/-- Outcome codes (03 R45). -/
def outcomeCode : Verdict → Nat
  | .granted => 0
  | .passed => 1
  | .denied _ => 2
  | .retry _ => 3
  | .faultedParity => 4
  | .faultedPoisoned => 4
  | .released => 5
  | .releasedLate => 6
  | .refusedUnknownTag => 7
  | .refusedForeignTag => 7
  | .refusedMalformed => 7
  | .acked => 8

/-- Reason codes; 0 is NONE (03 R45). -/
def reasonCode : Verdict → Nat
  | .granted => 0
  | .passed => 0
  | .denied .reqDisabled => 1
  | .denied .quarantined => 2
  | .denied .vacant => 3
  | .denied .revoking => 4
  | .denied .domain => 5
  | .denied .access => 6
  | .denied .claimLimit => 7
  | .retry .starting => 8
  | .retry .queued => 9
  | .retry .pending => 10
  | .retry .queueFull => 11
  | .retry .claimFull => 12
  | .faultedParity => 13
  | .faultedPoisoned => 14
  | .released => 0
  | .releasedLate => 0
  | .refusedUnknownTag => 15
  | .refusedForeignTag => 16
  | .refusedMalformed => 17
  | .acked => 0

def standingCode : ReqStanding → Nat
  | .disabled => 0
  | .enabled => 1
  | .quarantined => 2

def phaseCode : Phase → Nat
  | .loading => 1
  | .reloading => 2
  | .running => 3

def finderCode : Finder → Nat
  | .resolve => 1
  | .commit => 2
  | .sweep => 3
  | .scrub => 4
  | .hostRead => 5

def imageItemCode : ImageItem → Nat
  | .header => 1
  | .control => 2
  | .requester => 3
  | .preload => 4
  | .freeze => 5

/-- Abort reason codes (06 R106). -/
def abortCode : AbortReason → Nat
  | .count => 1
  | .outside => 2
  | .overflow => 3
  | .short => 4
  | .interrupted => 5
  | .duplicate => 6

/-- Rejection reason codes (06 R116). -/
def rejectCode : RejectReason → Nat
  | .notVacant => 1
  | .claimed => 2
  | .emptySet => 3
  | .domainClosing => 4
  | .notLive => 5
  | .noFields => 6
  | .drainFull => 7
  | .protectedGroup => 8

def statusCode : CommandStatus → Nat
  | .none => 0
  | .done => 1
  | .refused => 2
  | .busyStarted => 3

/-- Refusal reason codes (11 R181). -/
def refusalCode : RefusalReason → Nat
  | .busy => 1
  | .badOperand => 2
  | .noBatch => 3
  | .notRunning => 4
  | .notSuspended => 5
  | .notRevoking => 6
  | .inRange => 7
  | .alreadySet => 8
  | .starting => 9

/-! ### The request and response lines (03 R43) -/

/-- The request lines. -/
structure RequestLines where
  kind : BitVec 3
  requester : BitVec 4
  access : BitVec 1
  claim : BitVec 1
  tag : BitVec 6
  address : BitVec 40
  deriving DecidableEq, Repr

/-- The request on the lines: the kind is decoded first, and the fields its kind does not use are ignored (R43, R44). -/
def requestOf (x : RequestLines) : Instr :=
  if x.kind = 1#3 then
    .resolve x.requester.toFin x.address (if x.access = 1#1 then .write else .read) (x.claim == 1#1)
  else if x.kind = 2#3 then .release x.requester.toFin x.tag.toFin
  else if x.kind = 3#3 then .slotReset x.requester.toFin
  else .malformedRequest x.kind

/-- The response lines: an absent field has its presence line low and its value lines driven to 0. -/
structure ResponseLines where
  outcome : BitVec 4
  reason : BitVec 5
  snoop : BitVec 1
  addressPresent : BitVec 1
  address : BitVec 40
  generationPresent : BitVec 1
  generation : BitVec 16
  tagPresent : BitVec 1
  tag : BitVec 6
  entryPresent : BitVec 1
  entry : BitVec 12
  deriving DecidableEq, Repr

def responseLines (r : Response) : ResponseLines :=
  { outcome := BitVec.ofNat 4 (outcomeCode r.verdict)
    reason := BitVec.ofNat 5 (reasonCode r.verdict)
    snoop := BitVec.ofNat 1 ((r.place.map (fun p => snoopCode p.1)).getD 0)
    addressPresent := BitVec.ofBool r.place.isSome
    address := (r.place.map (·.2)).getD 0#40
    generationPresent := BitVec.ofBool r.generation.isSome
    generation := r.generation.getD 0#16
    tagPresent := BitVec.ofBool r.tag.isSome
    tag := BitVec.ofNat 6 ((r.tag.map (·.val)).getD 0)
    entryPresent := BitVec.ofBool r.entry.isSome
    entry := BitVec.ofNat 12 ((r.entry.map (·.val)).getD 0) }

/-! ### Setting codes (11 R180, 12 R184) -/

def snoopOfCode : Nat → Option Snoop
  | 0 => some .snooped
  | 1 => some .direct
  | _ => none

def discardTimeOfCode : Nat → Option DiscardTime
  | 0 => some .us16
  | 1 => some .us64
  | 2 => some .us256
  | 3 => some .us1024
  | _ => none

def drainTimeOfCode : Nat → Option DrainTime
  | 0 => some .ms1
  | 1 => some .ms4
  | 2 => some .ms16
  | 3 => some .ms64
  | 4 => some .unlimited
  | _ => none

def quarantineTimeOfCode : Nat → Option QuarantineTime
  | 0 => some .ms1
  | 1 => some .ms10
  | 2 => some .ms100
  | 3 => some .ms1000
  | _ => none

/-- A bit field of `w` defined bits: a bit set above them is an undefined code. -/
def fieldOfCode (w v : Nat) : Option (BitVec w) := if v < 2 ^ w then some (BitVec.ofNat w v) else none

def discardTimeCode : DiscardTime → Nat
  | .us16 => 0
  | .us64 => 1
  | .us256 => 2
  | .us1024 => 3

def drainTimeCode : DrainTime → Nat
  | .ms1 => 0
  | .ms4 => 1
  | .ms16 => 2
  | .ms64 => 3
  | .unlimited => 4

def quarantineTimeCode : QuarantineTime → Nat
  | .ms1 => 0
  | .ms10 => 1
  | .ms100 => 2
  | .ms1000 => 3

/-- The discard time in ns (05 R92). -/
def discardNs : DiscardTime → Time
  | .us16 => 16000
  | .us64 => 64000
  | .us256 => 256000
  | .us1024 => 1024000

/-- The drain time in ns; UNLIMITED is none (07 R129). -/
def drainNs : DrainTime → Option Time
  | .ms1 => some 1000000
  | .ms4 => some 4000000
  | .ms16 => some 16000000
  | .ms64 => some 64000000
  | .unlimited => none

/-- The quarantine time in ns (02 R30). -/
def quarantineNs : QuarantineTime → Time
  | .ms1 => 1000000
  | .ms10 => 10000000
  | .ms100 => 100000000
  | .ms1000 => 1000000000

/-- The time left to a deadline in whole us, rounded down (11 R182); 0 for a deadline that is due (log 19). -/
def timeLeft (now deadline : Time) : Nat := (deadline - now) / 1000

/-! ### Operand bytes (11 R181) -/

/-- Operand byte k as a number. -/
def operandByte (s : State) (k : Fin 12) : Nat := (s.mgmt.operands[k]).toNat

/-- The two-byte operand whose lower byte is byte k (11 R178). -/
def operandPair (s : State) (lo hi : Fin 12) : Nat := operandByte s lo + 256 * operandByte s hi

/-- Access, snoop from bits 0 and 1 of operand byte 7 (11 R181). -/
def operandAccess (b : Byte) : Access := if b.getLsbD 0 then .readWrite else .readOnly

def operandSnoop (b : Byte) : Snoop := if b.getLsbD 1 then .direct else .snooped

/-- The op of BATCH_LOAD's operand bytes, none when it is malformed (06 R102): a kind code other than 1, 2, 3, an entry
index above 4095, or a REVOKE with BAD_PARITY. For INSTALL and REVOKE the presence bits are ignored (11 R181). -/
def operandOp (s : State) : Option BatchOp :=
  let flags := s.mgmt.operands[1]
  let b7 := s.mgmt.operands[7]
  let domains := s.mgmt.operands[8]
  match indexBelow 4096 (operandPair s 2 3) with
  | none => none
  | some i =>
    if operandByte s 0 = 1 then
      some (.install i ⟨BitVec.ofNat 24 (operandByte s 4 + 256 * operandByte s 5 + 65536 * operandByte s 6),
        operandAccess b7, operandSnoop b7, domains⟩ (flags.getLsbD 0))
    else if operandByte s 0 = 2 then
      some (.amend i (if flags.getLsbD 1 then some (operandAccess b7) else none)
        (if flags.getLsbD 2 then some (operandSnoop b7) else none)
        (if flags.getLsbD 3 then some domains else none) (flags.getLsbD 0))
    else if operandByte s 0 = 3 then
      if flags.getLsbD 0 then none else some (.revoke i)
    else none

end Sys2Proof.Machine
end

