-- ==== Sys2Proof/Machine/Ops.lean ====
section
/-! DEFINITION. The named operations the meanings share: the Grant Table's reads and writes with parity and poisoning
(01), requester faults (02), claim records and counts (04), pending slots (05), drains (07). -/

namespace Sys2Proof.Machine

/-! ### The Grant Table as a list in canonical form -/

/-- The entry at index `i`: an unlisted index reads as the cleared entry (R22). -/
def Table.get : Table → Nat → GrantEntry
  | [], _ => clearedEntry
  | (k, e) :: t, i => if k = i then e else Table.get t i

/-- Storing an entry: the pair is put in order, and an entry equal to the cleared one is not listed. -/
def Table.put : Table → Nat → GrantEntry → Table
  | [], i, e => if e = clearedEntry then [] else [(i, e)]
  | (k, x) :: t, i, e =>
    if i < k then (if e = clearedEntry then (k, x) :: t else (i, e) :: (k, x) :: t)
    else if i = k then (if e = clearedEntry then t else (i, e) :: t)
    else (k, x) :: Table.put t i e

/-- The canonical form above a bound: indices at least `lo`, rising, below 4096, no cleared entry listed. -/
def Table.wfFrom : Nat → Table → Bool
  | _, [] => true
  | lo, (k, e) :: t => decide (lo ≤ k) && decide (k < 4096) && decide (e ≠ clearedEntry) && Table.wfFrom (k + 1) t

/-- The canonical form of the Grant Table. -/
def Table.wf (t : Table) : Bool := Table.wfFrom 0 t

/-- The entry governing page `i` as stored. -/
def State.entry (s : State) (i : EntryIx) : GrantEntry := Table.get s.store.entries i.val

/-- Stores an entry, claim count, generation and parity included. -/
def State.putEntry (i : EntryIx) (e : GrantEntry) (s : State) : State :=
  { s with store := { s.store with entries := Table.put s.store.entries i.val e } }

/-! ### Parity (01 R15, R16) -/

/-- The codes of frame, access, snoop and domain set, 34 bits (R15). -/
def placementBits (p : Placement) : BitVec 34 :=
  p.domains ++ BitVec.ofNat 1 (snoopCode p.snoop) ++ BitVec.ofNat 1 (accessCode p.access) ++ p.frame

/-- Even parity over the covered fields: in VACANT and POISONED over the state code alone (R15). -/
def evenParity (c : Contents) : Bool :=
  match c with
  | .vacant => oddOnes (BitVec.ofNat 2 (contentsCode c))
  | .poisoned => oddOnes (BitVec.ofNat 2 (contentsCode c))
  | .live p => oddOnes (BitVec.ofNat 2 (contentsCode c)) ^^ oddOnes (placementBits p)
  | .revoking p => oddOnes (BitVec.ofNat 2 (contentsCode c)) ^^ oddOnes (placementBits p)

/-- An entry written whole: the generation rises by one when the contents differ from `base`, the contents the write
starts from (R13); parity is made, or inverted for a test write (R15, R21). The claim count is not written (R12). -/
def rewriteEntry (e : GrantEntry) (base contents : Contents) (badParity : Bool) : GrantEntry :=
  { e with
    contents := contents
    generation := if base = contents then e.generation else e.generation + 1#16
    parity := evenParity contents ^^ badParity }

/-- An entry replaced whole without consulting its former contents: the generation rises by one (R16, R131, R132, R186). -/
def replaceEntry (e : GrantEntry) (contents : Contents) : GrantEntry :=
  { e with contents := contents, generation := e.generation + 1#16, parity := evenParity contents }

/-! ### The Drain List -/

/-- A Drain List item names the entry (07 R126). -/
def State.hasDrain (s : State) (i : EntryIx) : Bool := s.drain.any (fun d => d.entry == i)

/-- The list without the item naming the entry; the items after it move up (07 R125). -/
def removeDrain (i : EntryIx) (d : DrainList) : DrainList := d.filter (fun x => x.entry != i)

/-- The number of free items (07 R125). -/
def State.freeDrains (s : State) : Nat := 16 - s.drain.length

/-- An item naming the entry is appended, its deadline fixed from the drain time standing now (07 R127, R129). -/
def State.addDrain (i : EntryIx) (s : State) : State :=
  { s with drain := s.drain ++ [⟨i, (drainNs s.settings.drainTime).map (fun t => s.now + t)⟩] }

/-! ### Reading an entry with the parity check (01 R16 to R18) -/

/-- The check of R16: stored parity agrees, and none of the three laws it tests with the parity is broken. -/
def passesCheck (e : GrantEntry) (drains : Bool) : Bool :=
  (e.parity == evenParity e.contents) &&
    (match e.contents with
      | .vacant => true
      | .poisoned => true
      | .live p => !drains && p.domains != 0#8
      | .revoking _ => drains)

/-- Poisoning at a failed read (R17, R18): the entry becomes POISONED with its claim count kept and its generation raised,
its drain item is removed, and PARITY is reported. -/
def State.poison (finder : Finder) (i : EntryIx) (s : State) : State :=
  let s1 := s.putEntry i (replaceEntry (s.entry i) .poisoned)
  State.report (.parity i finder) { s1 with drain := removeDrain i s1.drain }

/-- The read at this index would fail its check. A POISONED entry is not checked again (R9, R16). -/
def State.readFails (s : State) (i : EntryIx) : Bool :=
  (s.entry i).contents != .poisoned && !passesCheck (s.entry i) (s.hasDrain i)

/-- A read with the parity check: the state after it, whose entry at `i` is the entry as read (R16, R17). -/
def State.readEntry (finder : Finder) (i : EntryIx) (s : State) : State :=
  if s.readFails i then s.poison finder i else s

/-! ### Window geometry (01 R1 to R4) -/

def pageBytes : PageSize → Nat
  | .k4 => 4096
  | .k64 => 65536

/-- 4096 pages (R1). -/
def windowBytes (p : PageSize) : Nat := 4096 * pageBytes p

/-- The address lies in the window (R3). -/
def State.inWindow (s : State) (a : Address) : Bool :=
  decide (s.store.base.toNat ≤ a.toNat) && decide (a.toNat < s.store.base.toNat + windowBytes s.store.pageSize)

/-- The page index of an address inside the window (R3). -/
def State.pageOf (s : State) (a : Address) : EntryIx :=
  entryIxOf ((a.toNat - s.store.base.toNat) / pageBytes s.store.pageSize)

/-- The offset of an address inside the window (R3). -/
def State.offsetOf (s : State) (a : Address) : Nat := (a.toNat - s.store.base.toNat) % pageBytes s.store.pageSize

/-- The translated address: frame times page size plus offset (R4). -/
def State.translate (s : State) (frame : BitVec 24) (a : Address) : Address :=
  BitVec.ofNat 40 (frame.toNat * pageBytes s.store.pageSize + s.offsetOf a)

/-! ### Requesters: faults and quarantine (02 R28 to R31) -/

/-- The part is starting until the phase is RUNNING (03 R47). -/
def State.starting (s : State) : Bool := s.loader.phase != .running

def State.requester (s : State) (r : ReqId) : Requester := s.requesters.live[r]

def State.putRequester (r : ReqId) (q : Requester) (s : State) : State :=
  { s with requesters := { s.requesters with live := s.requesters.live.set r q } }

def State.domainRecord (s : State) (d : Domain) : DomainRecord := s.requesters.domains[d]

def State.putDomain (d : Domain) (q : DomainRecord) (s : State) : State :=
  { s with requesters := { s.requesters with domains := s.requesters.domains.set d q } }

/-- The CLOSING domains, bit d for domain d (11 R178). -/
def State.closingSet (s : State) : BitVec 8 :=
  (List.finRange 8).foldl (fun m d => if (s.domainRecord d).closing then m ||| (1#8 <<< d.val) else m) 0#8

/-- The domains whose miss policy is PASS, bit d for domain d (11 R178). -/
def State.passSet (s : State) : BitVec 8 :=
  (List.finRange 8).foldl (fun m d => if (s.domainRecord d).pass then m ||| (1#8 <<< d.val) else m) 0#8

/-- The quarantine mask of the kind is set (R29; bit k-1 for fault kind code k, 11 R180). -/
def faultMasked (st : Settings) (k : FaultKind) : Bool := st.masks.getLsbD (faultCode k - 1)

/-- A fault of this requester and kind is counted (R29). -/
def faultCounted (st : Settings) (q : Requester) (k : FaultKind) : Bool :=
  q.standing != .disabled && q.clearing.isNone && !faultMasked st k

/-- The fault count after one more counted fault: a count of 15 stays (R29). -/
def countedFaults (n : Fin 16) : Fin 16 := if h : n.val < 15 then ⟨n.val + 1, by omega⟩ else n

/-- The count reaches a non-zero threshold (R30, R31). -/
def reachesThreshold (st : Settings) (n : Fin 16) : Bool :=
  st.threshold != 0#4 && decide (st.threshold.toNat ≤ n.val)

/-- A requester fault: REQUESTER_FAULT is recorded; the fault is counted where R29 counts it; a counted fault that reaches
the threshold quarantines or renews the quarantine, and QUARANTINE is recorded (R29 to R31). -/
def State.fault (r : ReqId) (k : FaultKind) (s : State) : State :=
  let s1 := s.report (.requesterFault r k)
  let q := s1.requester r
  if faultCounted s1.settings q k then
    if reachesThreshold s1.settings (countedFaults q.faults) then
      State.report (.quarantine r) (s1.putRequester r
        { q with standing := .quarantined, faults := 0,
                 deadline := some (s1.now + quarantineNs s1.settings.quarantineTime) })
    else s1.putRequester r { q with faults := countedFaults q.faults }
  else s1

/-! ### Claim counts and claim records (04) -/

/-- What a record in use names (R65). -/
def claimOf : ClaimRecord → Option Claim
  | .free => none
  | .active c => some c
  | .orphaned c => some c

/-- A record in use names the requester (R67). -/
def namesRequester (r : ReqId) (c : ClaimRecord) : Bool :=
  match claimOf c with
  | some x => x.requester == r
  | none => false

/-- A record in use names the entry. -/
def namesEntry (i : EntryIx) (c : ClaimRecord) : Bool :=
  match claimOf c with
  | some x => x.entry == i
  | none => false

/-- The requester's holding: the records in use that name it (R67). -/
def State.holding (s : State) (r : ReqId) : Nat := (List.finRange 64).countP (fun t => namesRequester r s.claims[t])

/-- The lowest-numbered FREE tag (R68). -/
def State.lowestFree (s : State) : Option Tag := (List.finRange 64).find? (fun t => s.claims[t] == .free)

def State.putClaim (t : Tag) (c : ClaimRecord) (s : State) : State := { s with claims := s.claims.set t c }

/-- A claim count lowered by 1; below 0 the value is free (log 6). -/
def lowered (c : Fin 65) (free : Nat) : Fin 65 :=
  if c.val = 0 then Config.claimCount free else ⟨c.val - 1, by omega⟩

/-- A claim count raised by 1; above 64 the value is free (log 6). -/
def raised (c : Fin 65) (free : Nat) : Fin 65 :=
  if h : c.val < 64 then ⟨c.val + 1, by omega⟩ else Config.claimCount free

def isRevoking : Contents → Bool
  | .revoking _ => true
  | _ => false

/-- A drain completes: the entry becomes VACANT without a parity check, its item is removed, DRAIN_DONE is raised (07 R131).
The Sweep Engine is told by `State.settle` at the end of the same event. -/
def State.completeDrain (i : EntryIx) (s : State) : State :=
  let s1 := s.putEntry i (replaceEntry (s.entry i) .vacant)
  State.raise .drainDone { s1 with drain := removeDrain i s1.drain }

/-- The entry's claim count falls by 1; a REVOKING entry whose count reaches 0 completes its drain at once (R80). REVOKING
is the state as stored, an item naming the entry or not, which differ only after storage damage: DESIGN CHOICE (log 25). -/
def State.lowerCount (i : EntryIx) (s : State) : State :=
  let e := s.entry i
  let n := lowered e.claimCount s.free
  let s1 := s.putEntry i { e with claimCount := n }
  let s2 := { s1 with free := if e.claimCount.val = 0 then s1.free + 1 else s1.free }
  if n.val = 0 ∧ isRevoking e.contents = true then s2.completeDrain i else s2

/-- The entry's claim count rises by 1 (R68). -/
def State.raiseCount (i : EntryIx) (s : State) : State :=
  let e := s.entry i
  let s1 := s.putEntry i { e with claimCount := raised e.claimCount s.free }
  { s1 with free := if e.claimCount.val < 64 then s1.free else s1.free + 1 }

/-- The record becomes FREE; an ACTIVE one lowers its entry's count (R78). -/
def State.freeClaim (t : Tag) (s : State) : State :=
  match s.claims[t] with
  | .free => s
  | .orphaned _ => s.putClaim t .free
  | .active c => (s.putClaim t .free).lowerCount c.entry

/-! ### Pending slots (05) -/

/-- The request of an occupied slot (R83). -/
def slotRequest : Slot → Option Request
  | .empty => none
  | .waiting q _ => some q
  | .ready q _ _ _ => some q

/-- The page of an occupied slot (R83). -/
def slotPage : Slot → Option EntryIx
  | .empty => none
  | .waiting _ p => some p
  | .ready _ p _ _ => some p

/-- The claim tag a READY slot's answer carries (R83). -/
def slotTag : Slot → Option Tag
  | .empty => none
  | .waiting _ _ => none
  | .ready _ _ a _ => a.tag

def isReady : Slot → Bool
  | .ready _ _ _ _ => true
  | _ => false

def isWaiting : Slot → Bool
  | .waiting _ _ => true
  | _ => false

def State.putSlot (k : SlotIx) (x : Slot) (s : State) : State := { s with queue := s.queue.set k x }

/-- The READY slot whose answer carries the tag (04 R70). -/
def State.carrier (s : State) (t : Tag) : Option SlotIx :=
  (List.finRange 8).find? (fun k => slotTag s.queue[k] == some t)

/-- The slot that holds this request in the given state (R84). -/
def State.slotHolding (s : State) (p : Slot → Bool) (q : Request) : Option SlotIx :=
  (List.finRange 8).find? (fun k => p s.queue[k] && slotRequest s.queue[k] == some q)

/-- The lowest-numbered EMPTY slot (R84). -/
def State.lowestEmpty (s : State) : Option SlotIx := (List.finRange 8).find? (fun k => s.queue[k] == .empty)

/-- The slot is emptied, and the claim its answer carries is freed (R98). -/
def State.dropSlot (k : SlotIx) (s : State) : State :=
  match slotTag s.queue[k] with
  | some t => (s.putSlot k .empty).freeClaim t
  | none => s.putSlot k .empty

/-- Every slot of the requester is emptied, in ascending order (02 R37, 05 R98). -/
def State.dropSlotsOf (r : ReqId) (s : State) : State :=
  (List.finRange 8).foldl
    (fun s k => if (slotRequest s.queue[k]).map (·.requester) = some r then s.dropSlot k else s) s

/-- The queue after a write that changed entry `i`: READY slots on it whose answers carry no claim are emptied (R95). -/
def emptyStale (i : EntryIx) (q : PendingQueue) : PendingQueue :=
  tabulate (fun k => if isReady q[k] && slotPage q[k] == some i && slotTag q[k] == none then .empty else q[k])

/-! ### The forced or expired end of a drain (07 R132, R133) -/

/-- The tag is carried by a READY slot and its record names the entry (05 R96). -/
def State.carriedOn (s : State) (i : EntryIx) (t : Tag) : Bool := (s.carrier t).isSome && namesEntry i s.claims[t]

/-- The ACTIVE records naming the entry that no READY slot carries: the ones a drain's end orphans (04 R77). -/
def State.orphanedBy (s : State) (i : EntryIx) (t : Tag) : Bool :=
  match s.claims[t] with
  | .active c => c.entry == i && !s.carriedOn i t
  | _ => false

/-- A record turned ORPHANED keeps all its fields (04 R65). -/
def orphan : ClaimRecord → ClaimRecord
  | .active c => .orphaned c
  | c => c

/-- The end of a drain at its deadline or by force: slots carrying claims on the entry are emptied and those claims freed,
the other ACTIVE claims are orphaned, the entry becomes VACANT with claim count 0, its item is removed. -/
def State.endDrain (i : EntryIx) (s : State) : State :=
  let s1 := s.putEntry i { replaceEntry (s.entry i) .vacant with claimCount := 0 }
  { s1 with
    claims := tabulate (fun t =>
      if s.carriedOn i t then .free else if s.orphanedBy i t then orphan s.claims[t] else s.claims[t])
    queue := tabulate (fun k =>
      match slotTag s.queue[k] with
      | some t => if namesEntry i s.claims[t] then .empty else s.queue[k]
      | none => s.queue[k])
    drain := removeDrain i s.drain }

/-- The number of records the end of the drain orphans (07 R132). -/
def State.orphanCount (s : State) (i : EntryIx) : Nat := (List.finRange 64).countP (fun t => s.orphanedBy i t)

end Sys2Proof.Machine
end

