-- ==== Sys2Proof/Machine/Walk.lean ====
section
/-! DEFINITION. The Sweep Engine's step, the end of a walk, and the retake of a waiting entry, which other events bring
about (09 R149 to R161). -/

namespace Sys2Proof.Machine

/-- The Sweep Result with its report changed. -/
def State.updateReport (f : SweepReport → SweepReport) (s : State) : State :=
  { s with sweep := { s.sweep with result := s.sweep.result.map f } }

/-- The counts of a domain sweep changed. -/
def updateCounts (f : SweepCounts → SweepCounts) (r : SweepReport) : SweepReport :=
  match r.subject with
  | .domainSweep d c => { r with subject := .domainSweep d (f c) }
  | .scrub => r

/-- Poisoned found +1 (R153, R156). -/
def State.countPoisoned (s : State) : State := s.updateReport (fun r => { r with poisoned := r.poisoned + 1 })

/-- The domain of a domain sweep becomes OPEN (R151). -/
def State.reopen (k : WalkKind) (s : State) : State :=
  match k with
  | .domainSweep d => s.putDomain d { s.domainRecord d with closing := false }
  | .scrub => s

/-- A walk ends: its domain becomes OPEN, the Sweep Result is written, the engine becomes IDLE, SWEEP_DONE is raised
(R160, R161). -/
def State.endWalk (w : Walk) (ending : WalkEnd) (s : State) : State :=
  let s1 := (s.reopen w.kind).updateReport (fun r => { r with ending := ending })
  State.raise .sweepDone { s1 with sweep := { s1.sweep with walk := none } }

/-- The cursor moves on to `next`. Past entry 4095 the walk completes (R161); in SUSPENDING the engine becomes SUSPENDED,
or ends CANCELLED when cancel requested is SET (R158). -/
def State.advance (w : Walk) (next : Nat) (s : State) : State :=
  let s1 := s.updateReport (fun r => { r with cursor := next })
  match indexBelow 4096 next with
  | none => s1.endWalk w .complete
  | some i =>
    match w.state with
    | .suspending true => s1.endWalk w .cancelled
    | .suspending false => { s1 with sweep := { s1.sweep with walk := some { w with state := .suspended, cursor := i } } }
    | _ => { s1 with sweep := { s1.sweep with walk := some { w with state := .running, cursor := i } } }

/-- A step that needs a drain item and finds none free: nothing is written (R153, R154, R158). -/
def State.lackItem (w : Walk) (s : State) : State :=
  match w.state with
  | .suspending true => s.endWalk w .cancelled
  | .suspending false => { s with sweep := { s.sweep with walk := some { w with state := .suspended } } }
  | _ => { s with sweep := { s.sweep with walk := some { w with state := .waitingDrain } } }

/-- A sweep's write of the entry at the cursor: parity is made anew, and the slots it makes stale are emptied (R153, R95). -/
def State.sweepWrite (i : EntryIx) (contents : Contents) (s : State) : State :=
  let e := s.entry i
  let s1 := s.putEntry i (rewriteEntry e e.contents contents false)
  { s1 with queue := emptyStale i s1.queue }

/-- A domain sweep takes the entry at its cursor (R153). -/
def State.sweepTake (w : Walk) (d : Domain) (s : State) : State :=
  let i := w.cursor
  let s1 := s.readEntry .sweep i
  let e := s1.entry i
  match e.contents with
  | .poisoned => (s1.countPoisoned).advance w (i.val + 1)
  | .vacant => s1.advance w (i.val + 1)
  | .revoking p =>
    if inSet d p.domains then
      ((s1.sweepWrite i (.revoking { p with domains := withoutDomain d p.domains })).updateReport
        (updateCounts (fun c => { c with changed := c.changed + 1 }))).advance w (i.val + 1)
    else s1.advance w (i.val + 1)
  | .live p =>
    if inSet d p.domains then
      if withoutDomain d p.domains ≠ 0#8 then
        ((s1.sweepWrite i (.live { p with domains := withoutDomain d p.domains })).updateReport
          (updateCounts (fun c => { c with changed := c.changed + 1 }))).advance w (i.val + 1)
      else if e.claimCount.val = 0 then
        ((s1.sweepWrite i .vacant).updateReport
          (updateCounts (fun c => { c with changed := c.changed + 1, vacated := c.vacated + 1 }))).advance w (i.val + 1)
      else if s1.drain.length < 16 then
        (((s1.sweepWrite i (.revoking { p with domains := 0#8 })).addDrain i).updateReport
          (updateCounts (fun c => { c with changed := c.changed + 1, draining := c.draining + 1 }))).advance w (i.val + 1)
      else s1.lackItem w
    else s1.advance w (i.val + 1)

/-- A step of a domain sweep: at position 0 the freeze mark is read first, and a frozen group is skipped whole (R152). -/
def State.sweepStepOf (w : Walk) (d : Domain) (s : State) : State :=
  if positionOf w.cursor = 0 ∧ s.freeze.marks.getLsbD (groupOf w.cursor).val = true then
    (s.updateReport (updateCounts (fun c => { c with skipped := c.skipped + 1 }))).advance w (w.cursor.val + 32)
  else s.sweepTake w d

/-- A step of a scrub (R156). -/
def State.scrubStepOf (w : Walk) (s : State) : State :=
  let s1 := s.readEntry .scrub w.cursor
  let s2 := if (s1.entry w.cursor).contents = .poisoned then s1.countPoisoned else s1
  s2.advance w (w.cursor.val + 1)

/-- The engine takes steps in RUNNING and SUSPENDING (R149). -/
def stepping (w : Walk) : Bool :=
  match w.state with
  | .running => true
  | .suspending _ => true
  | _ => false

/-- The retake of the waiting entry: the engine becomes RUNNING and takes the entry as a fresh step, without rereading the
freeze mark (R154). -/
def State.retake (s : State) : State :=
  match s.sweep.walk with
  | some w =>
    match w.state, w.kind with
    | .waitingDrain, .domainSweep d => s.sweepTake { w with state := .running } d
    | _, _ => s
  | none => s

/-- The engine waits for a drain item (R154). -/
def State.waitingWalk (s : State) : Option Walk :=
  match s.sweep.walk with
  | some w => if w.state = .waitingDrain then some w else none
  | none => none

/-- One of R154's three events has happened between `s` and `t`: a Drain List item was removed, the waiting entry's claim
count came to 0, or the waiting entry was poisoned. -/
def retakeDue (w : Walk) (s t : State) : Bool :=
  decide (t.drain.length < s.drain.length)
  || (decide ((s.entry w.cursor).claimCount.val ≠ 0) && decide ((t.entry w.cursor).claimCount.val = 0))
  || (decide ((s.entry w.cursor).contents ≠ .poisoned) && decide ((t.entry w.cursor).contents = .poisoned))

/-- The end of an event that went from `s` to `t`: a waiting Sweep Engine retakes its entry at that same event when one of
R154's events has happened in it (07 R128, 09 R154; log 13). -/
def settle (s t : State) : State :=
  match t.waitingWalk with
  | some w => if retakeDue w s t then t.retake else t
  | none => t

end Sys2Proof.Machine
end

