-- ==== Sys2Proof/Machine/Evaluate.lean ====
section
/-! DEFINITION. The evaluation of a RESOLVE: the requester test (03 R49), the entry, domain, access and claim tests
(R54 to R58), and the evaluation of the WAITING slots when a commit ends (R60, 05 R89, R90). -/

namespace Sys2Proof.Machine

/-- A response with no field other than outcome and reason (R46). -/
def bare (v : Verdict) : Response := ⟨v, none, none, none, none⟩

/-- A response with the entry's generation and the page index (R46). -/
def withEntry (v : Verdict) (g : Generation) (i : EntryIx) : Response := ⟨v, none, some g, none, some i⟩

/-- A response with the page index alone (R46). -/
def withPage (v : Verdict) (i : EntryIx) : Response := ⟨v, none, none, none, some i⟩

/-- Step 2, the requester's standing: the denial it gives, if it decides (R49). -/
def State.standingDenial (s : State) (r : ReqId) : Option Verdict :=
  let q := s.requester r
  if q.clearing.isSome then some (.denied .reqDisabled)
  else match q.standing with
    | .disabled => some (.denied .reqDisabled)
    | .quarantined => some (.denied .quarantined)
    | .enabled => none

/-- Step 9 when the claim flag is set, then step 10 (R57, R58, 04 R68). -/
def State.claimAndGrant (q : Request) (i : EntryIx) (p : Placement) (s : State) : State × Response :=
  let g := (s.entry i).generation
  if (s.requester q.requester).limit.val ≤ s.holding q.requester then (s, withEntry (.denied .claimLimit) g i)
  else match s.lowestFree with
    | none => (s, withEntry (.retry .claimFull) g i)
    | some t =>
      ((s.putClaim t (.active ⟨q.requester, i, g, q.dir⟩)).raiseCount i,
        ⟨.granted, some (p.snoop, s.translate p.frame q.address), some g, some t, some i⟩)

/-- Steps 6 to 10 (R54 to R58). -/
def State.entryTests (q : Request) (i : EntryIx) (s : State) : State × Response :=
  let s1 := s.readEntry .resolve i
  let g := (s1.entry i).generation
  match (s1.entry i).contents with
  | .poisoned => (s1, withEntry (if s.readFails i then .faultedParity else .faultedPoisoned) g i)
  | .revoking _ => (s1, withEntry (.denied .revoking) g i)
  | .vacant =>
    if (s1.domainRecord (s1.requester q.requester).domain).pass then
      (s1, ⟨.passed, some (s1.settings.snoop, q.address), some g, none, some i⟩)
    else (s1, withEntry (.denied .vacant) g i)
  | .live p =>
    if !inSet (s1.requester q.requester).domain p.domains then (s1, withEntry (.denied .domain) g i)
    else if q.dir = .write ∧ p.access = .readOnly then (s1, withEntry (.denied .access) g i)
    else if q.claim then s1.claimAndGrant q i p
    else (s1, ⟨.granted, some (p.snoop, s1.translate p.frame q.address), some g, none, some i⟩)

/-- The evaluation for a waiting slot: steps 2 and 6 to 10 (R60). -/
def State.evaluate (q : Request) (i : EntryIx) (s : State) : State × Response :=
  match s.standingDenial q.requester with
  | some v => (s, bare v)
  | none => s.entryTests q i

/-- One WAITING slot is evaluated and takes its result (05 R90). -/
def State.evaluateSlot (k : SlotIx) (s : State) : State :=
  match s.queue[k] with
  | .waiting q i =>
    let r := s.evaluate q i
    if r.2.verdict = .retry .claimFull then r.1.putSlot k .empty
    else r.1.putSlot k (.ready q i r.2 (s.now + discardNs s.settings.discardTime))
  | _ => s

/-- Every WAITING slot is evaluated, in ascending slot number (05 R89). -/
def State.evaluateWaiting (s : State) : State := (List.finRange 8).foldl (fun s k => s.evaluateSlot k) s

/-- The fault a delivered response incurs (02 R28, 03 R59, R62). -/
def faultOf (v : Verdict) : Option FaultKind :=
  match v with
  | .denied .domain => some .domain
  | .denied .access => some .access
  | .denied .claimLimit => some .claimLimit
  | .denied .vacant => some .vacant
  | .refusedUnknownTag => some .unknownTag
  | .refusedForeignTag => some .foreignTag
  | _ => none

/-- The response is placed on the response lines, and the fault it incurs is reported, at one event (03 R42, R59). -/
def State.deliver (r : ReqId) (a : Response) (s : State) : State :=
  let s1 := { s with port := .answered a }
  match faultOf a.verdict with
  | some k => s1.fault r k
  | none => s1

end Sys2Proof.Machine
end

