-- ==== Sys2Proof/Machine/Resolve.lean ====
section
/-! DEFINITION. The Resolve Port's commands: RESOLVE, RELEASE, SLOT_RESET, MALFORMED_REQUEST, RSP_TAKEN (03, 04, 05). -/

namespace Sys2Proof.Machine

/-- The acceptance of a requester clearing (02 R37): clearing becomes present, the fault count 0, the deadline is dropped,
and every slot of the requester is emptied with the claim it carries. -/
def State.acceptClearing (r : ReqId) (c : Clearing) (s : State) : State :=
  (s.putRequester r { s.requester r with clearing := some c, faults := 0, deadline := none }).dropSlotsOf r

/-- Step 5 for a locked group (05 R85). -/
def State.storeRequest (q : Request) (i : EntryIx) (s : State) : State × Response :=
  match s.slotHolding isWaiting q with
  | some _ => (s, withPage (.retry .pending) i)
  | none =>
    match s.lowestEmpty with
    | some k => (s.putSlot k (.waiting q i), withPage (.retry .queued) i)
    | none => (s, withPage (.retry .queueFull) i)

/-- The answer a slot stores (05 R83). -/
def storedAnswer : Slot → Option Response
  | .ready _ _ a _ => some a
  | _ => none

/-- Steps 4 to 10 for an address inside the window (R52 to R58). -/
def State.resolveInside (q : Request) (s : State) : State × Response :=
  match s.slotHolding isReady q with
  | some k =>
    match storedAnswer s.queue[k] with
    | some a => (s.putSlot k .empty, a)
    | none => s.entryTests q (s.pageOf q.address)
  | none =>
    if s.store.lockMark = some (groupOf (s.pageOf q.address)) then s.storeRequest q (s.pageOf q.address)
    else s.entryTests q (s.pageOf q.address)

/-- Steps 1 to 10 of a RESOLVE: the state before delivery, and the response (R48). -/
def State.resolveRequest (q : Request) (s : State) : State × Response :=
  if s.starting then (s, bare (.retry .starting))
  else match s.standingDenial q.requester with
    | some v => (s, bare v)
    | none =>
      if s.inWindow q.address then s.resolveInside q
      else (s, ⟨.passed, some (s.settings.snoop, q.address), none, none, none⟩)

/-- The port is READY, so that it takes a request (R41). -/
def State.portReady (s : State) : Bool := s.port == .ready

/-- RESOLVE (R48). A request presented while the port is not READY is not taken (R41; log 12). -/
def execResolve (requester : ReqId) (address : Address) (dir : Dir) (claim : Bool) (s : State) :
    Host.Outcome State Fault Refusal :=
  if s.portReady then
    let r := s.resolveRequest ⟨requester, address, dir, claim⟩
    .next (settle s (r.1.deliver requester r.2))
  else .next s

/-- The five cases of a RELEASE (04 R71), with the fields R46 gives each answer. A carried tag's slot is emptied (R73). -/
def State.releaseRequest (r : ReqId) (t : Tag) (s : State) : State × Response :=
  match s.claims[t] with
  | .free => (s, ⟨.refusedUnknownTag, none, none, some t, none⟩)
  | .orphaned c =>
    if c.requester = r then (s.freeClaim t, ⟨.releasedLate, none, some c.generation, some t, some c.entry⟩)
    else (s, ⟨.refusedForeignTag, none, none, some t, none⟩)
  | .active c =>
    if c.requester = r then
      match s.carrier t with
      | some k => ((s.putSlot k .empty).freeClaim t, ⟨.released, none, some c.generation, some t, some c.entry⟩)
      | none => (s.freeClaim t, ⟨.released, none, some c.generation, some t, some c.entry⟩)
    else (s, ⟨.refusedForeignTag, none, none, some t, none⟩)

/-- RELEASE (04 R71; RETRY(STARTING) by 03 R47). -/
def execRelease (requester : ReqId) (tag : Tag) (s : State) : Host.Outcome State Fault Refusal :=
  if s.portReady then
    if s.starting then .next (s.deliver requester (bare (.retry .starting)))
    else
      let r := s.releaseRequest requester tag
      .next (settle s (r.1.deliver requester r.2))
  else .next s

/-- A SLOT_RESET of a requester: its clearing is accepted, or the one in progress is joined and ends TO_DEFAULTS; the port
goes to HOLDING (02 R36, 03 R63). -/
def State.slotResetRequest (r : ReqId) (s : State) : State :=
  let s1 :=
    if (s.requester r).clearing.isSome then s.putRequester r { s.requester r with clearing := some .toDefaults }
    else s.acceptClearing r .toDefaults
  { s1 with port := .holding r }

/-- SLOT_RESET (03 R63; RETRY(STARTING) by R47). -/
def execSlotReset (requester : ReqId) (s : State) : Host.Outcome State Fault Refusal :=
  if s.portReady then
    if s.starting then .next (s.deliver requester (bare (.retry .starting)))
    else .next (settle s (s.slotResetRequest requester))
  else .next s

/-- MALFORMED_REQUEST (03 R44), in every phase. Kind codes 1, 2 and 3 are not malformed: no such event. -/
def execMalformedRequest (kind : BitVec 3) (s : State) : Host.Outcome State Fault Refusal :=
  if s.portReady ∧ !(kind == 1#3 || kind == 2#3 || kind == 3#3) then
    .next (State.report (.portProtocol kind) { s with port := .answered (bare .refusedMalformed) })
  else .next s

/-- RSP_TAKEN (03 R41): in ANSWERED the port goes to READY; elsewhere no effect. -/
def execRspTaken (s : State) : Host.Outcome State Fault Refusal :=
  match s.port with
  | .answered _ => .next { s with port := .ready }
  | .ready => .next s
  | .holding _ => .next s

end Sys2Proof.Machine
end

