-- ==== Sys2Proof/Machine/Timers.lean ====
section
/-! DEFINITION. The requester clearing's work and completion (02 R38, R39), and the three deadlines (02 R32, 05 R93,
07 R132). An event that the state does not give rise to leaves the state as it is (log 1). -/

namespace Sys2Proof.Machine

/-- The lowest-numbered record in use naming the requester (R38, 04 R79). -/
def State.lowestOf (s : State) (r : ReqId) : Option Tag :=
  (List.finRange 64).find? (fun t => namesRequester r s.claims[t])

/-- REQUESTER_CLEARING_FREE (R38): one record per event, in ascending tag order. -/
def execRequesterClearingFree (requester : ReqId) (s : State) : Host.Outcome State Fault Refusal :=
  if (s.requester requester).clearing.isSome then
    match s.lowestOf requester with
    | some t => .next (settle s (s.freeClaim t))
    | none => .next s
  else .next s

/-- The record a clearing ends with (R39). -/
def clearedRequester (d : RequesterDefault) (c : Clearing) : Requester :=
  match c with
  | .toDefaults => ⟨if d.enabled then .enabled else .disabled, d.domain, d.limit, 0, none, none⟩
  | .toDisabled domain limit => ⟨.disabled, domain, limit, 0, none, none⟩

/-- REQUESTER_CLEARING_COMPLETION (R39): the record is replaced; a SLOT_RESET held for it is answered ACKED. -/
def execRequesterClearingCompletion (requester : ReqId) (s : State) : Host.Outcome State Fault Refusal :=
  match (s.requester requester).clearing, s.lowestOf requester with
  | some c, none =>
    let s1 := s.putRequester requester (clearedRequester s.requesters.defaults[requester] c)
    .next { s1 with port := if s.port = .holding requester then .answered (bare .acked) else s.port }
  | _, _ => .next s

/-- The deadline has come. -/
def isDue (now : Time) (deadline : Option Time) : Bool :=
  match deadline with
  | some d => decide (d ≤ now)
  | none => false

/-- QUARANTINE_DEADLINE_EXPIRY (R32): ENABLED, deadline absent, fault count kept, QUARANTINE_END raised. -/
def execQuarantineDeadlineExpiry (requester : ReqId) (s : State) : Host.Outcome State Fault Refusal :=
  if isDue s.now (s.requester requester).deadline then
    .next (State.raise .quarantineEnd
      (s.putRequester requester { s.requester requester with standing := .enabled, deadline := none }))
  else .next s

/-- The discard deadline of a slot (05 R83). -/
def slotDeadline : Slot → Option Time
  | .ready _ _ _ d => some d
  | _ => none

/-- DISCARD_DEADLINE_EXPIRY (05 R93): the slot is emptied and a carried claim freed; DISCARD is reported, then the DISCARD
fault. -/
def execDiscardDeadlineExpiry (slot : SlotIx) (s : State) : Host.Outcome State Fault Refusal :=
  match s.queue[slot] with
  | .ready q _ _ d =>
    if d ≤ s.now then
      .next (settle s (((s.dropSlot slot).report (.discard q.requester slot)).fault q.requester .discard))
    else .next s
  | .waiting _ _ => .next s
  | .empty => .next s

/-- DRAIN_EXPIRY (07 R132) of the item at the position: the drain ends and DRAIN_EXPIRED is reported with the number of
records orphaned. -/
def execDrainExpiry (position : Fin 16) (s : State) : Host.Outcome State Fault Refusal :=
  match s.drain[position.val]? with
  | some d =>
    if isDue s.now d.deadline then
      .next (settle s ((s.endDrain d.entry).report (.drainExpired d.entry (s.orphanCount d.entry))))
    else .next s
  | none => .next s

/-! ### Time (log 2) -/

/-- The expiries due now: quarantines, then slots, then drain items. -/
def State.dueExpiries (s : State) : List Instr :=
  ((List.finRange 16).filter (fun r => isDue s.now (s.requester r).deadline)).map .quarantineDeadlineExpiry
  ++ ((List.finRange 8).filter (fun k => isDue s.now (slotDeadline s.queue[k]))).map .discardDeadlineExpiry
  ++ ((List.finRange 16).filter (fun p => isDue s.now ((s.drain[p.val]?).bind (·.deadline)))).map .drainExpiry

/-- The expiry taken when nothing waits in the queue: one of those due, chosen by a free value when there are several. -/
def State.dueEvent (s : State) : Option Instr :=
  match s.dueExpiries with
  | [] => none
  | [c] => some c
  | c :: cs => (c :: cs)[Config.tieBreak s.free % (cs.length + 1)]?

end Sys2Proof.Machine
end

