-- ==== Sys2Proof/Machine/Command.lean ====
section
/-! DEFINITION. What every host command goes through at its dispatch: the STARTING test, the batch abort of 06 R107, its own
tests and effect, the command status (11 R181). -/

namespace Sys2Proof.Machine

/-- How a command ends at its dispatch (11 R181). -/
inductive CommandEnd where
  | done
  | busyStarted
  | refused (r : RefusalReason)
  deriving DecidableEq, Repr

/-- The command status and refusal reason are written (11 R181). -/
def State.setStatus (e : CommandEnd) (s : State) : State :=
  { s with mgmt :=
    match e with
    | .done => { s.mgmt with status := .done, reason := none }
    | .busyStarted => { s.mgmt with status := .busyStarted, reason := none }
    | .refused r => { s.mgmt with status := .refused, reason := some r } }

/-- An abort of the batch (06 R106): the buffer returns to IDLE, STAGE_ABORT is set with the reason, BATCH_ABORT is
reported. -/
def State.abortBatch (reason : AbortReason) (s : State) : State :=
  State.report (.batchAbort reason) { s with batch := { s.batch with staging := .idle, abort := some reason } }

/-- The Staging Buffer is LOADING or LOADED. -/
def openBatch : Staging → Bool
  | .loading _ _ _ => true
  | .loaded _ _ _ => true
  | _ => false

/-- The abort INTERRUPTED that a command outside R107's list makes before its own tests (06 R107). -/
def State.interrupt (s : State) : State := if openBatch s.batch.staging then s.abortBatch .interrupted else s

/-- The Staging Buffer is COMMITTING. -/
def committing : Staging → Bool
  | .committing _ _ _ _ _ _ => true
  | _ => false

/-- A command that is refused STARTING while the part is starting and that aborts an open batch (06 R107, 11 R181). -/
def State.interrupting (body : State → State × CommandEnd) (s : State) : State :=
  if s.starting then s.setStatus (.refused .starting)
  else
    let r := body s.interrupt
    r.1.setStatus r.2

/-- A batch command of R107's list: refused STARTING while the part is starting; it leaves an open batch to its own rule. -/
def State.batchCommand (body : State → State × CommandEnd) (s : State) : State :=
  if s.starting then s.setStatus (.refused .starting)
  else
    let r := body s
    r.1.setStatus r.2

/-- A READ_ query: taken in every phase (11 R181). A query ending DONE writes the result bytes whole, unused bytes 0; a
refused one leaves them (R182). -/
def State.query (answer : State → Option (State × List Byte)) (s : State) : State :=
  match answer s with
  | some (s1, bytes) =>
    State.setStatus .done { s1 with mgmt := { s1.mgmt with results := tabulate (fun k => bytes.getD k.val 0#8) } }
  | none => s.setStatus (.refused .badOperand)

/-- The next byte of a write transaction goes to this address (11 R176, R177). -/
def State.writesAt (a : BitVec 7) (s : State) : Bool := s.mgmt.transaction == .writing && s.mgmt.pointer == a

/-- A written byte has been taken: the pointer advances by one, from 0x7F to 0x00 (R175), and the part has sent no byte (11 R176, R177). -/
def State.byteTaken (s : State) : State :=
  { s with mgmt := { s.mgmt with pointer := s.mgmt.pointer + 1#7, sent := none } }

/-- The host writes the code of a command to the command register, 0x5C: the command is dispatched at that event (11 R181).
With the next byte going elsewhere there is no such event (log 1, log 10). -/
def atCommandRegister (effect : State → State) (s : State) : Host.Outcome State Fault Refusal :=
  if s.writesAt 0x5C#7 then .next (effect s).byteTaken else .next s

end Sys2Proof.Machine
end

