-- ==== Sys2Proof/Machine/Batch.lean ====
section
/-! DEFINITION. The Batch Unit: the four batch commands, and the commit's validation, application and completion (06). -/

namespace Sys2Proof.Machine

/-- The Staging Buffer with another content. -/
def State.putStaging (x : Staging) (s : State) : State := { s with batch := { s.batch with staging := x } }

/-- The Commit Result record is replaced whole (R122). -/
def State.putResult (r : CommitResult) (s : State) : State := { s with batch := { s.batch with result := r } }

def State.putLockMark (m : Option Group) (s : State) : State := { s with store := { s.store with lockMark := m } }

/-- The entry an op names (R102). -/
def opEntry : BatchOp → EntryIx
  | .install i _ _ => i
  | .amend i _ _ _ _ => i
  | .revoke i => i

/-! ### BATCH_OPEN, BATCH_LOAD, BATCH_DISCARD (R103 to R105) -/

/-- BATCH_OPEN's tests and effect; an open batch has been aborted before (R103). -/
def State.openTests (s : State) : State × CommandEnd :=
  if committing s.batch.staging then (s, .refused .busy)
  else
    match indexBelow 128 (operandByte s 0) with
    | none => (s, .refused .badOperand)
    | some g =>
      let n := operandByte s 1
      if n = 0 ∨ 64 < n then (s, .refused .badOperand)
      else if 32 < n then (s.abortBatch .count, .done)
      else ({ s with batch := { s.batch with staging := .loading g n [], abort := none } }, .done)

def State.batchOpen : State → State := State.interrupting State.openTests

/-- BATCH_OPEN (R103). -/
def execBatchOpen (s : State) : Host.Outcome State Fault Refusal := atCommandRegister State.batchOpen s

/-- A well-formed op is appended; the load that reaches the declared count makes the buffer LOADED (R104). -/
def appendOp (g : Group) (declared : Nat) (ops : List BatchOp) (op : BatchOp) : Staging :=
  if ops.length + 1 = declared then .loaded g declared (ops ++ [op]) else .loading g declared (ops ++ [op])

/-- R104's table. -/
def State.loadTests (s : State) : State × CommandEnd :=
  match s.batch.staging with
  | .idle => (s, .refused .noBatch)
  | .committing _ _ _ _ _ _ => (s, .refused .busy)
  | .loaded _ _ _ => (s.abortBatch .overflow, .done)
  | .loading g declared ops =>
    match operandOp s with
    | none => (s, .refused .badOperand)
    | some op =>
      if groupOf (opEntry op) ≠ g then (s.abortBatch .outside, .done)
      else if ops.any (fun x => opEntry x == opEntry op) then (s.abortBatch .duplicate, .done)
      else (s.putStaging (appendOp g declared ops op), .done)

def State.batchLoad : State → State := State.batchCommand State.loadTests

/-- BATCH_LOAD (R104). -/
def execBatchLoad (s : State) : Host.Outcome State Fault Refusal := atCommandRegister State.batchLoad s

/-- R105. -/
def State.discardTests (s : State) : State × CommandEnd :=
  if committing s.batch.staging then (s, .refused .busy) else (s.putStaging .idle, .done)

def State.batchDiscard : State → State := State.batchCommand State.discardTests

/-- BATCH_DISCARD (R105). -/
def execBatchDiscard (s : State) : Host.Outcome State Fault Refusal := atCommandRegister State.batchDiscard s

/-! ### BATCH_COMMIT: acceptance (R108 to R110) -/

/-- Tests 2 and 3 of R109: the Sweep Engine holds the commit off. -/
def State.sweepHolds (s : State) (g : Group) : Bool :=
  match s.sweep.walk with
  | none => false
  | some w => if w.state = .suspended then decide (groupOf w.cursor = g) else true

/-- Demotion (05 R87): READY slots of the group whose answers carry no claim become WAITING, keeping request and page. -/
def demote (g : Group) (x : Slot) : Slot :=
  match x with
  | .ready q i a d => if groupOf i = g ∧ a.tag = none then .waiting q i else .ready q i a d
  | .waiting q i => .waiting q i
  | .empty => .empty

/-- Acceptance (R110). -/
def State.acceptCommit (g : Group) (declared : Nat) (ops : List BatchOp) (s : State) : State :=
  let s1 := (s.putStaging (.committing g declared ops [] 0 ⟨0, 0, 0, 0, 0⟩)).putLockMark (some g)
  let s2 := s1.putResult (.inProgress g ops.length)
  { s2 with queue := tabulate (fun k => demote g s2.queue[k]) }

/-- A commit for a frozen group: the batch is dropped, PROTECTED (R109 test 1). -/
def State.protectCommit (g : Group) (s : State) : State :=
  State.report (.commitReject .protectedGroup none) ((s.putStaging .idle).putResult (.protectedGroup g))

/-- R108's table and R109's tests. -/
def State.commitTests (s : State) : State × CommandEnd :=
  match s.batch.staging with
  | .idle => (s, .refused .noBatch)
  | .loading _ _ _ => (s.abortBatch .short, .done)
  | .committing _ _ _ _ _ _ => (s, .refused .busy)
  | .loaded g declared ops =>
    if s.freeze.marks.getLsbD g.val then (s.protectCommit g, .done)
    else if s.sweepHolds g then (s, .refused .busy)
    else (s.acceptCommit g declared ops, .busyStarted)

def State.batchCommit : State → State := State.batchCommand State.commitTests

/-- BATCH_COMMIT (R108). -/
def execBatchCommit (s : State) : Host.Outcome State Fault Refusal := atCommandRegister State.batchCommit s

/-! ### COMMIT_VALIDATION (R112 to R116) -/

/-- INSTALL (R113): the reason it fails for, if it fails. -/
def judgeInstall (closing : BitVec 8) (e : GrantEntry) (p : Placement) : Option RejectReason :=
  match e.contents with
  | .live _ => some .notVacant
  | .revoking _ => some .notVacant
  | c =>
    if c = .poisoned ∧ e.claimCount.val ≠ 0 then some .claimed
    else if p.domains = 0#8 then some .emptySet
    else if p.domains &&& closing ≠ 0#8 then some .domainClosing
    else none

/-- AMEND (R114). -/
def judgeAmend (closing : BitVec 8) (e : GrantEntry) (access : Option Access) (snoop : Option Snoop)
    (domains : Option (BitVec 8)) : Option RejectReason :=
  match e.contents with
  | .live p =>
    if access = none ∧ snoop = none ∧ domains = none then some .noFields
    else if access.getD p.access ≠ p.access ∧ e.claimCount.val ≠ 0 then some .claimed
    else if domains = some 0#8 then some .emptySet
    else if domains.getD p.domains &&& ~~~p.domains &&& closing ≠ 0#8 then some .domainClosing
    else none
  | _ => some .notLive

/-- An op that is a REVOKE of an entry read with claims will need a drain item (R115). -/
def drainNeeding (op : BatchOp) (c : ValidatedCopy) : Bool :=
  match op with
  | .revoke _ => decide (c.claimCount.val ≠ 0)
  | _ => false

/-- The drain-needing REVOKEs validated so far (R115). -/
def drainsNeeded (ops : List BatchOp) (copies : List ValidatedCopy) : Nat :=
  (ops.zip copies).countP (fun x => drainNeeding x.1 x.2)

/-- REVOKE (R115); `needed` counts the drain-needing REVOKEs before this one. -/
def judgeRevoke (freeItems needed : Nat) (e : GrantEntry) : Option RejectReason :=
  if e.contents = .vacant ∨ isRevoking e.contents = true then some .notLive
  else if e.claimCount.val ≠ 0 ∧ freeItems < needed + 1 then some .drainFull
  else none

/-- An op is judged against the entry as read (R112). -/
def State.judge (s : State) (needed : Nat) (op : BatchOp) : Option RejectReason :=
  match op with
  | .install i p _ => judgeInstall s.closingSet (s.entry i) p
  | .amend i access snoop domains _ => judgeAmend s.closingSet (s.entry i) access snoop domains
  | .revoke i => judgeRevoke s.freeDrains needed (s.entry i)

/-- The end of a commit: the result is written, the lock mark cleared, the buffer IDLE, COMMIT_DONE raised (R116, R121). -/
def State.closeCommit (r : CommitResult) (s : State) : State :=
  State.raise .commitDone (((s.putResult r).putLockMark none).putStaging .idle)

/-- The rejection of a commit (R116). -/
def State.rejectCommit (g : Group) (ops position : Nat) (i : EntryIx) (reason : RejectReason) (s : State) : State :=
  State.evaluateWaiting ((s.report (.commitReject reason (some i))).closeCommit (.rejected g ops reason i position))

/-- COMMIT_VALIDATION (R112): the op after the last validated one is judged. With no op left to validate, no event. -/
def execCommitValidation (s : State) : Host.Outcome State Fault Refusal :=
  match s.batch.staging with
  | .committing g declared ops copies applied tally =>
    match ops[copies.length]? with
    | some op =>
      let s1 := s.readEntry .commit (opEntry op)
      let e := s1.entry (opEntry op)
      match s1.judge (drainsNeeded ops copies) op with
      | some reason => .next (settle s (s1.rejectCommit g ops.length copies.length (opEntry op) reason))
      | none =>
        .next (settle s (s1.putStaging
          (.committing g declared ops (copies ++ [⟨e.contents, e.claimCount⟩]) applied tally)))
    | none => .next s
  | _ => .next s

/-! ### COMMIT_APPLICATION (R117 to R119) -/

/-- One count of the commit rises by 1 (R117). -/
def tallied (c : Config.Tallied) (t : Tally) : Tally :=
  match c with
  | .installed => { t with installed := t.installed + 1 }
  | .amended => { t with amended := t.amended + 1 }
  | .vacated => { t with vacated := t.vacated + 1 }
  | .draining => { t with draining := t.draining + 1 }
  | .passed => { t with passed := t.passed + 1 }

/-- The contents a write starts from: POISONED when the entry stands so, else those of the validated copy (R117). -/
def writeBase (e : GrantEntry) (c : ValidatedCopy) : Contents := if e.contents = .poisoned then .poisoned else c.contents

/-- The placement with each field an AMEND carries replacing its counterpart (R118). -/
def amended (p : Placement) (access : Option Access) (snoop : Option Snoop) (domains : Option (BitVec 8)) : Placement :=
  { p with access := access.getD p.access, snoop := snoop.getD p.snoop, domains := domains.getD p.domains }

/-- The placement of an entry moved into REVOKING: its own, or R8's for a POISONED one (R119). -/
def revokedPlacement (c : Contents) : Placement :=
  match c with
  | .live p => p
  | .revoking p => p
  | _ => ⟨0#24, .readOnly, .snooped, 0#8⟩

/-- A REVOKE's write (R119). A refusal of the Drain Unit leaves the entry as it stands (07 R127); the count is free
(log 7). When an item names the entry already, which only storage damage brings about, a second one is appended: DESIGN
CHOICE (log 23). -/
def State.applyRevoke (i : EntryIx) (base : Contents) (s : State) : State × Config.Tallied :=
  let e := s.entry i
  if e.claimCount.val = 0 then (s.putEntry i (rewriteEntry e base .vacant false), .vacated)
  else if s.drain.length < 16 then
    ((s.putEntry i (rewriteEntry e base (.revoking (revokedPlacement base)) false)).addDrain i, .draining)
  else ({ s with free := s.free + 1 }, Config.refusedTally s.free)

/-- One op is written from the op and its validated copy (R117 to R119). -/
def State.applyOp (op : BatchOp) (c : ValidatedCopy) (s : State) : State × Config.Tallied :=
  let e := s.entry (opEntry op)
  let base := writeBase e c
  match op with
  | .install i p bad => (s.putEntry i (rewriteEntry e base (.live p) bad), .installed)
  | .amend i access snoop domains bad =>
    match base with
    | .live p => (s.putEntry i (rewriteEntry e base (.live (amended p access snoop domains)) bad), .amended)
    | _ => (s, .passed)
  | .revoke i => s.applyRevoke i base

/-- COMMIT_APPLICATION (R117), once every op is validated. With no op left to apply, no event. -/
def execCommitApplication (s : State) : Host.Outcome State Fault Refusal :=
  match s.batch.staging with
  | .committing g declared ops copies applied tally =>
    if copies.length = ops.length then
      match ops[applied]?, copies[applied]? with
      | some op, some c =>
        let r := s.applyOp op c
        .next (r.1.putStaging (.committing g declared ops copies (applied + 1) (tallied r.2 tally)))
      | _, _ => .next s
    else .next s
  | _ => .next s

/-! ### COMMIT_COMPLETION (R121) -/

/-- COMMIT_COMPLETION (R121), once every op is applied. -/
def execCommitCompletion (s : State) : Host.Outcome State Fault Refusal :=
  match s.batch.staging with
  | .committing g _ ops copies applied tally =>
    if copies.length = ops.length ∧ applied = ops.length then
      .next (settle s (State.evaluateWaiting (s.closeCommit (.ok g ops.length tally))))
    else .next s
  | _ => .next s

end Sys2Proof.Machine
end

