-- ==== Sys2Proof/Machine/Freeze.lean ====
section
/-! DEFINITION. The Freeze Map: the four freeze commands (08 R140 to R144). -/

namespace Sys2Proof.Machine

/-- The group lies inside the Freeze Range (R138). -/
def insideRange (r : Option FreezeRange) (g : Group) : Bool :=
  match r with
  | some x => decide (x.lower ≤ g) && decide (g ≤ x.upper)
  | none => false

/-- The marks of the groups from lower to upper. -/
def rangeMarks (lower upper : Group) : BitVec 128 :=
  (BitVec.allOnes 128 <<< lower.val) &&& (BitVec.allOnes 128 >>> (127 - upper.val))

/-- The Freeze Range becomes present and is spent; its marks become SET (R144, R139). -/
def setRange (lower upper : Group) (f : FreezeMap) : FreezeMap :=
  { marks := f.marks ||| rangeMarks lower upper, range := some ⟨lower, upper⟩, rangeUsed := true }

/-- R141. -/
def State.freezeGroupTests (s : State) : State × CommandEnd :=
  match indexBelow 128 (operandByte s 0) with
  | none => (s, .refused .badOperand)
  | some g =>
    if s.store.lockMark = some g then (s, .refused .busy)
    else ({ s with freeze := { s.freeze with marks := s.freeze.marks ||| (1#128 <<< g.val) } }, .done)

def State.freezeGroup : State → State := State.interrupting State.freezeGroupTests

/-- FREEZE_GROUP (R141). -/
def execFreezeGroup (s : State) : Host.Outcome State Fault Refusal := atCommandRegister State.freezeGroup s

/-- R142. -/
def State.thawGroupTests (s : State) : State × CommandEnd :=
  match indexBelow 128 (operandByte s 0) with
  | none => (s, .refused .badOperand)
  | some g =>
    if insideRange s.freeze.range g then (s, .refused .inRange)
    else ({ s with freeze := { s.freeze with marks := s.freeze.marks &&& ~~~(1#128 <<< g.val) } }, .done)

def State.thawGroup : State → State := State.interrupting State.thawGroupTests

/-- THAW_GROUP (R142). -/
def execThawGroup (s : State) : Host.Outcome State Fault Refusal := atCommandRegister State.thawGroup s

/-- R143. -/
def State.freezeAllTests (s : State) : State × CommandEnd :=
  if committing s.batch.staging then (s, .refused .busy)
  else ({ s with freeze := { s.freeze with marks := BitVec.allOnes 128 } }, .done)

def State.freezeAll : State → State := State.interrupting State.freezeAllTests

/-- FREEZE_ALL (R143). -/
def execFreezeAll (s : State) : Host.Outcome State Fault Refusal := atCommandRegister State.freezeAll s

/-- The two group numbers as a range: each 0..127, lower no greater than upper (R138). -/
def rangeOf (lower upper : Nat) : Option FreezeRange :=
  match indexBelow 128 lower, indexBelow 128 upper with
  | some l, some u => if l ≤ u then some ⟨l, u⟩ else none
  | _, _ => none

/-- R144. -/
def State.freezeRangeTests (s : State) : State × CommandEnd :=
  match rangeOf (operandByte s 0) (operandByte s 1) with
  | none => (s, .refused .badOperand)
  | some r =>
    if s.freeze.rangeUsed then (s, .refused .alreadySet)
    else ({ s with freeze := setRange r.lower r.upper s.freeze }, .done)

def State.freezeRange : State → State := State.interrupting State.freezeRangeTests

/-- FREEZE_RANGE (R144). -/
def execFreezeRange (s : State) : Host.Outcome State Fault Refusal := atCommandRegister State.freezeRange s

end Sys2Proof.Machine
end

