-- ==== Sys2Proof/Machine/Sweep.lean ====
section
/-! DEFINITION. The Sweep Engine's commands and steps (09 R149 to R161) and FORCE_DRAIN (07 R133). -/

namespace Sys2Proof.Machine

/-! ### Starting a walk (R150) -/

/-- The Sweep Result as a walk starts (R150). -/
def freshSubject : WalkKind → SweepSubject
  | .domainSweep d => .domainSweep d ⟨0, 0, 0, 0⟩
  | .scrub => .scrub

/-- Test 4 and the acceptance (R150). -/
def State.startWalk (k : WalkKind) (s : State) : State × CommandEnd :=
  if s.sweep.walk.isSome ∨ committing s.batch.staging = true then (s, .refused .busy)
  else
    let s1 := { s with sweep := ⟨some ⟨.running, k, 0⟩, some ⟨.inProgress, freshSubject k, 0, 0⟩⟩ }
    match k with
    | .domainSweep d => (s1.putDomain d { s1.domainRecord d with closing := true }, .busyStarted)
    | .scrub => (s1, .busyStarted)

/-- DOMAIN_SWEEP's tests (R150). -/
def State.domainSweepTests (s : State) : State × CommandEnd :=
  match indexBelow 8 (operandByte s 0) with
  | none => (s, .refused .badOperand)
  | some d => s.startWalk (.domainSweep d)

def State.domainSweep : State → State := State.interrupting State.domainSweepTests

/-- DOMAIN_SWEEP (R150). -/
def execDomainSweep (s : State) : Host.Outcome State Fault Refusal := atCommandRegister State.domainSweep s

def State.scrub : State → State := State.interrupting (State.startWalk .scrub)

/-- SCRUB (R150). -/
def execScrub (s : State) : Host.Outcome State Fault Refusal := atCommandRegister State.scrub s

/-! ### Suspend, resume, cancel (R157 to R160) -/

/-- The walk in a new state. -/
def State.walkIn (x : WalkState) (w : Walk) (s : State) : State :=
  { s with sweep := { s.sweep with walk := some { w with state := x } } }

/-- R157's table. -/
def State.suspendTests (s : State) : State × CommandEnd :=
  match s.sweep.walk with
  | none => (s, .refused .notRunning)
  | some w =>
    match w.state with
    | .running => (s.walkIn (.suspending false) w, .done)
    | .waitingDrain => (s.walkIn .suspended w, .done)
    | .suspending _ => (s, .refused .notRunning)
    | .suspended => (s, .refused .notRunning)

def State.sweepSuspend : State → State := State.interrupting State.suspendTests

/-- SWEEP_SUSPEND (R157). -/
def execSweepSuspend (s : State) : Host.Outcome State Fault Refusal := atCommandRegister State.sweepSuspend s

/-- SWEEP_RESUME's tests (R158). -/
def State.resumeTests (s : State) : State × CommandEnd :=
  match s.sweep.walk with
  | none => (s, .refused .notSuspended)
  | some w =>
    if w.state ≠ .suspended then (s, .refused .notSuspended)
    else if committing s.batch.staging then (s, .refused .busy)
    else (s.walkIn .running w, .done)

def State.sweepResume : State → State := State.interrupting State.resumeTests

/-- SWEEP_RESUME (R158). -/
def execSweepResume (s : State) : Host.Outcome State Fault Refusal := atCommandRegister State.sweepResume s

/-- R160's table. -/
def State.cancelTests (s : State) : State × CommandEnd :=
  match s.sweep.walk with
  | none => (s, .refused .notRunning)
  | some w =>
    match w.state with
    | .suspending _ => (s.walkIn (.suspending true) w, .done)
    | .running => (s.endWalk w .cancelled, .done)
    | .waitingDrain => (s.endWalk w .cancelled, .done)
    | .suspended => (s.endWalk w .cancelled, .done)

def State.sweepCancel : State → State := State.interrupting State.cancelTests

/-- SWEEP_CANCEL (R160). -/
def execSweepCancel (s : State) : Host.Outcome State Fault Refusal := atCommandRegister State.sweepCancel s

/-! ### Steps (R149, R152 to R154, R156, R158) -/

/-- SWEEP_STEP (R153): a domain sweep in RUNNING or SUSPENDING takes its step; otherwise no event. -/
def execSweepStep (s : State) : Host.Outcome State Fault Refusal :=
  match s.sweep.walk with
  | none => .next s
  | some w =>
    match w.kind with
    | .domainSweep d => if stepping w then .next (s.sweepStepOf w d) else .next s
    | .scrub => .next s

/-- SCRUB_STEP (R156): a scrub in RUNNING or SUSPENDING takes its step; otherwise no event. -/
def execScrubStep (s : State) : Host.Outcome State Fault Refusal :=
  match s.sweep.walk with
  | none => .next s
  | some w =>
    match w.kind with
    | .scrub => if stepping w then .next (s.scrubStepOf w) else .next s
    | .domainSweep _ => .next s

/-- What a retake answers to stands: an item is free, the waiting entry has no claims, or it is POISONED (R154). -/
def State.retakeStands (s : State) (w : Walk) : Bool :=
  decide (s.drain.length < 16) || decide ((s.entry w.cursor).claimCount.val = 0)
    || decide ((s.entry w.cursor).contents = .poisoned)

/-- SWEEP_RETAKE (R154). The events that trigger a retake carry it out themselves (`settle`), so the row on its own finds
a waiting engine only where the condition came about without such an event; elsewhere no event (log 13). -/
def execSweepRetake (s : State) : Host.Outcome State Fault Refusal :=
  match s.waitingWalk with
  | some w => if s.retakeStands w then .next s.retake else .next s
  | none => .next s

/-! ### FORCE_DRAIN (07 R133) -/

/-- R133's tests and effect; the Sweep Engine is told at the same event (R128). REVOKING is the state as stored, an item
naming the entry or not, which differ only after storage damage: DESIGN CHOICE (log 25). -/
def State.forceDrainTests (s : State) : State × CommandEnd :=
  match indexBelow 4096 (operandPair s 0 1) with
  | none => (s, .refused .badOperand)
  | some i =>
    if isRevoking (s.entry i).contents then (settle s (State.raise .drainDone (s.endDrain i)), .done)
    else (s, .refused .notRevoking)

def State.forceDrain : State → State := State.interrupting State.forceDrainTests

/-- FORCE_DRAIN (07 R133). -/
def execForceDrain (s : State) : Host.Outcome State Fault Refusal := atCommandRegister State.forceDrain s

end Sys2Proof.Machine
end

