-- ==== Sys2Proof/Machine/Requesters.lean ====
section
/-! DEFINITION. The Requester Table's commands (02 R26, R34, R36) and CLEAR_ERRORS (10 R166). -/

namespace Sys2Proof.Machine

/-- DOMAIN_SET's tests and effect (R26): policy PASS 0, DENY 1 (11 R181). -/
def State.domainSetTests (s : State) : State × CommandEnd :=
  match indexBelow 8 (operandByte s 0) with
  | none => (s, .refused .badOperand)
  | some d =>
    if 1 < operandByte s 1 then (s, .refused .badOperand)
    else (s.putDomain d { s.domainRecord d with pass := operandByte s 1 == 0 }, .done)

def State.domainSet : State → State := State.interrupting State.domainSetTests

/-- DOMAIN_SET (R26). -/
def execDomainSet (s : State) : Host.Outcome State Fault Refusal := atCommandRegister State.domainSet s

/-- The state codes of REQUESTER_SET (11 R181). -/
def standingOfCode : Nat → Option ReqStanding
  | 0 => some .disabled
  | 1 => some .enabled
  | 2 => some .quarantined
  | _ => none

/-- What REQUESTER_SET writes: requester, state, domain, claim limit. -/
structure RequesterOrder where
  requester : ReqId
  standing : ReqStanding
  domain : Domain
  limit : Fin 65
  deriving DecidableEq, Repr

/-- REQUESTER_SET's operands, none when one is out of range (R34). -/
def requesterOrder (s : State) : Option RequesterOrder :=
  match indexBelow 16 (operandByte s 0), standingOfCode (operandByte s 1), indexBelow 8 (operandByte s 2),
      indexBelow 65 (operandByte s 3) with
  | some r, some x, some d, some l => some ⟨r, x, d, l⟩
  | _, _, _, _ => none

/-- REQUESTER_SET's tests and effect (R34, R36). R34 gives no order of its two refusals: with an operand out of range and
a clearing of r in progress the answer is BAD_OPERAND, DESIGN CHOICE (log 22). -/
def State.requesterSetTests (s : State) : State × CommandEnd :=
  match requesterOrder s with
  | none => (s, .refused .badOperand)
  | some o =>
    if (s.requester o.requester).clearing.isSome then (s, .refused .busy)
    else
      match o.standing with
      | .disabled => (settle s (s.acceptClearing o.requester (.toDisabled o.domain o.limit)), .busyStarted)
      | .enabled => (s.putRequester o.requester ⟨.enabled, o.domain, o.limit, 0, none, none⟩, .done)
      | .quarantined =>
        (s.putRequester o.requester
          ⟨.quarantined, o.domain, o.limit, 0, some (s.now + quarantineNs s.settings.quarantineTime), none⟩, .done)

def State.requesterSet : State → State := State.interrupting State.requesterSetTests

/-- REQUESTER_SET (R34). -/
def execRequesterSet (s : State) : Host.Outcome State Fault Refusal := atCommandRegister State.requesterSet s

/-- REQUESTER_RESET's tests and effect (R36). -/
def State.requesterResetTests (s : State) : State × CommandEnd :=
  match indexBelow 16 (operandByte s 0) with
  | none => (s, .refused .badOperand)
  | some r =>
    if (s.requester r).clearing.isSome then (s, .refused .busy)
    else (settle s (s.acceptClearing r .toDefaults), .busyStarted)

def State.requesterReset : State → State := State.interrupting State.requesterResetTests

/-- REQUESTER_RESET (R36). -/
def execRequesterReset (s : State) : Host.Outcome State Fault Refusal := atCommandRegister State.requesterReset s

/-- CLEAR_ERRORS's effect (10 R166). -/
def State.clearErrorsTests (s : State) : State × CommandEnd :=
  ({ s with errors := clearErrorRecords s.errors }, .done)

def State.clearErrors : State → State := State.interrupting State.clearErrorsTests

/-- CLEAR_ERRORS (10 R166). -/
def execClearErrors (s : State) : Host.Outcome State Fault Refusal := atCommandRegister State.clearErrors s

end Sys2Proof.Machine
end

