-- ==== Sys2Proof/Machine/Queries.lean ====
section
/-! DEFINITION. The seven READ_ queries and the layouts of their result bytes (11 R182; 04 R82, 05 R99, 07 R137, 09 R162,
06 R122). Bits of a byte that its table does not name read 0: DESIGN CHOICE (log 24). -/

namespace Sys2Proof.Machine

/-- The placement of an entry where its state has one (01 R5). -/
def placementOf : Contents → Option Placement
  | .live p => some p
  | .revoking p => some p
  | .vacant => none
  | .poisoned => none

/-- The access and snoop codes in bits 0 and 1. -/
def placementFlags (p : Placement) : Byte := bitAt 0 (accessCode p.access == 1) ||| bitAt 1 (snoopCode p.snoop == 1)

/-- READ_ENTRY's result bytes. -/
def entryBytes (e : GrantEntry) (poisonedNow : Bool) : List Byte :=
  let p := placementOf e.contents
  leBytes 1 (contentsCode e.contents)
    ++ leOption 3 (p.map (·.frame.toNat))
    ++ [(p.map placementFlags).getD 0#8, (p.map (·.domains)).getD 0#8]
    ++ leBytes 1 e.claimCount.val
    ++ leBytes 2 e.generation.toNat
    ++ [bitAt 0 p.isSome ||| bitAt 1 poisonedNow]

/-- READ_ENTRY: a read with the parity check, finder HOST_READ (01 R16); it may trigger a retake (09 R155). -/
def State.readEntryAnswer (s : State) : Option (State × List Byte) :=
  match indexBelow 4096 (operandPair s 0 1) with
  | none => none
  | some i =>
    let s1 := s.readEntry .hostRead i
    some (settle s s1, entryBytes (s1.entry i) (s.readFails i))

def State.readEntryQuery : State → State := State.query State.readEntryAnswer

/-- READ_ENTRY (11 R182). -/
def execReadEntry (s : State) : Host.Outcome State Fault Refusal := atCommandRegister State.readEntryQuery s

/-- State code of a claim record: FREE 0, ACTIVE 1, ORPHANED 2. -/
def claimCode : ClaimRecord → Nat
  | .free => 0
  | .active _ => 1
  | .orphaned _ => 2

/-- READ_CLAIM's result bytes. -/
def claimBytes (r : ClaimRecord) (carrier : Option SlotIx) : List Byte :=
  let c := claimOf r
  leBytes 1 (claimCode r)
    ++ leOption 1 (c.map (·.requester.val))
    ++ leOption 2 (c.map (·.entry.val))
    ++ leOption 2 (c.map (·.generation.toNat))
    ++ leOption 1 (c.map (fun x => dirCode x.dir))
    ++ [BitVec.ofNat 8 ((carrier.map (·.val)).getD 0) ||| bitAt 7 carrier.isSome, bitAt 0 c.isSome]

/-- READ_CLAIM (04 R82). -/
def State.readClaimAnswer (s : State) : Option (State × List Byte) :=
  (indexBelow 64 (operandByte s 0)).map (fun t => (s, claimBytes s.claims[t] (s.carrier t)))

def State.readClaimQuery : State → State := State.query State.readClaimAnswer

/-- READ_CLAIM (04 R82). -/
def execReadClaim (s : State) : Host.Outcome State Fault Refusal := atCommandRegister State.readClaimQuery s

/-- State code of a slot: EMPTY 0, WAITING 1, READY 2. -/
def slotCode : Slot → Nat
  | .empty => 0
  | .waiting _ _ => 1
  | .ready _ _ _ _ => 2

/-- The bytes of a slot's request, bytes 1 to 9. -/
def requestBytes (q : Option Request) (page : Option EntryIx) : List Byte :=
  leOption 1 (q.map (·.requester.val))
    ++ leOption 5 (q.map (·.address.toNat))
    ++ [bitAt 0 (q.map (·.dir) == some .write) ||| bitAt 1 ((q.map (·.claim)).getD false)]
    ++ leOption 2 (page.map (·.val))

/-- The bytes of a stored answer, bytes 10 to 22. -/
def answerBytes (a : Option Response) : List Byte :=
  let place := a.bind (·.place)
  let gen := a.bind (·.generation)
  let tag := a.bind (·.tag)
  let entry := a.bind (·.entry)
  leOption 1 (a.map (fun x => outcomeCode x.verdict))
    ++ leOption 1 (a.map (fun x => reasonCode x.verdict))
    ++ [bitAt 0 place.isSome ||| bitAt 1 gen.isSome ||| bitAt 2 tag.isSome ||| bitAt 3 entry.isSome |||
        bitAt 4 (place.map (·.1) == some .direct)]
    ++ leOption 5 (place.map (·.2.toNat))
    ++ leOption 2 (gen.map (·.toNat))
    ++ leOption 1 (tag.map (·.val))
    ++ leOption 2 (entry.map (·.val))

/-- READ_PENDING's result bytes. -/
def slotBytes (now : Time) (x : Slot) : List Byte :=
  leBytes 1 (slotCode x)
    ++ requestBytes (slotRequest x) (slotPage x)
    ++ answerBytes (storedAnswer x)
    ++ leOption 3 ((slotDeadline x).map (timeLeft now))
    ++ [bitAt 0 (slotRequest x).isSome ||| bitAt 1 (storedAnswer x).isSome]

/-- READ_PENDING (05 R99). -/
def State.readPendingAnswer (s : State) : Option (State × List Byte) :=
  (indexBelow 8 (operandByte s 0)).map (fun k => (s, slotBytes s.now s.queue[k]))

def State.readPendingQuery : State → State := State.query State.readPendingAnswer

/-- READ_PENDING (05 R99). -/
def execReadPending (s : State) : Host.Outcome State Fault Refusal := atCommandRegister State.readPendingQuery s

/-- READ_DRAIN's result bytes. -/
def drainBytes (now : Time) (d : Option DrainItem) : List Byte :=
  [bitAt 0 d.isSome]
    ++ leOption 2 (d.map (·.entry.val))
    ++ [bitAt 0 (d.map (·.deadline) == some none)]
    ++ leOption 3 ((d.bind (·.deadline)).map (timeLeft now))

/-- READ_DRAIN (07 R137). -/
def State.readDrainAnswer (s : State) : Option (State × List Byte) :=
  (indexBelow 16 (operandByte s 0)).map (fun p => (s, drainBytes s.now s.drain[p.val]?))

def State.readDrainQuery : State → State := State.query State.readDrainAnswer

/-- READ_DRAIN (07 R137). -/
def execReadDrain (s : State) : Host.Outcome State Fault Refusal := atCommandRegister State.readDrainQuery s

/-- Code of a clearing: absent 0, TO_DEFAULTS 1, TO_DISABLED 2. -/
def clearingCode : Option Clearing → Nat
  | none => 0
  | some .toDefaults => 1
  | some (.toDisabled _ _) => 2

/-- READ_REQUESTER's result bytes. -/
def requesterBytes (now : Time) (q : Requester) (d : RequesterDefault) : List Byte :=
  leBytes 1 (standingCode q.standing)
    ++ leBytes 1 q.domain.val
    ++ leBytes 1 q.limit.val
    ++ leBytes 1 q.faults.val
    ++ [bitAt 0 q.deadline.isSome ||| BitVec.ofNat 8 (2 * clearingCode q.clearing)]
    ++ leOption 3 (q.deadline.map (timeLeft now))
    ++ [bitAt 0 d.enabled]
    ++ leBytes 1 d.domain.val
    ++ leBytes 1 d.limit.val

/-- READ_REQUESTER (02 R23, R25). -/
def State.readRequesterAnswer (s : State) : Option (State × List Byte) :=
  (indexBelow 16 (operandByte s 0)).map
    (fun r => (s, requesterBytes s.now (s.requester r) s.requesters.defaults[r]))

def State.readRequesterQuery : State → State := State.query State.readRequesterAnswer

/-- READ_REQUESTER (02 R23). -/
def execReadRequester (s : State) : Host.Outcome State Fault Refusal := atCommandRegister State.readRequesterQuery s

/-- Code of a walk's end; NONE is 0. -/
def walkEndCode : WalkEnd → Nat
  | .inProgress => 1
  | .complete => 2
  | .cancelled => 3

/-- READ_SWEEP_RESULT's result bytes. -/
def sweepBytes (r : Option SweepReport) : List Byte :=
  match r with
  | none => []
  | some x =>
    match x.subject with
    | .domainSweep d c =>
      leBytes 1 (walkEndCode x.ending) ++ leBytes 1 0 ++ leBytes 1 d.val ++ leBytes 2 c.changed ++ leBytes 2 c.vacated
        ++ leBytes 2 c.draining ++ leBytes 1 c.skipped ++ leBytes 2 x.poisoned ++ leBytes 2 x.cursor ++ [0b11#8]
    | .scrub =>
      leBytes 1 (walkEndCode x.ending) ++ leBytes 1 1 ++ leBytes 8 0 ++ leBytes 2 x.poisoned ++ leBytes 2 x.cursor
        ++ [0b01#8]

/-- READ_SWEEP_RESULT (09 R162). -/
def State.readSweepResultAnswer (s : State) : Option (State × List Byte) := some (s, sweepBytes s.sweep.result)

def State.readSweepResultQuery : State → State := State.query State.readSweepResultAnswer

/-- READ_SWEEP_RESULT (09 R162). -/
def execReadSweepResult (s : State) : Host.Outcome State Fault Refusal :=
  atCommandRegister State.readSweepResultQuery s

/-- READ_COMMIT_RESULT's result bytes. -/
def commitBytes (r : CommitResult) : List Byte :=
  match r with
  | .none => []
  | .inProgress g n => leBytes 1 1 ++ leBytes 1 g.val ++ leBytes 1 n ++ leBytes 9 0 ++ [0b00011#8]
  | .ok g n t =>
    leBytes 1 2 ++ leBytes 1 g.val ++ leBytes 1 n ++ leBytes 4 0 ++ leBytes 1 t.installed ++ leBytes 1 t.amended
      ++ leBytes 1 t.vacated ++ leBytes 1 t.draining ++ leBytes 1 t.passed ++ [0b10011#8]
  | .rejected g n reason i position =>
    leBytes 1 3 ++ leBytes 1 g.val ++ leBytes 1 n ++ leBytes 1 (rejectCode reason) ++ leBytes 2 i.val
      ++ leBytes 1 position ++ leBytes 5 0 ++ [0b01111#8]
  | .protectedGroup g => leBytes 1 4 ++ leBytes 1 g.val ++ leBytes 1 0 ++ leBytes 1 8 ++ leBytes 8 0 ++ [0b00101#8]
  | .abandoned g n => leBytes 1 5 ++ leBytes 1 g.val ++ leBytes 1 n ++ leBytes 9 0 ++ [0b00011#8]

/-- READ_COMMIT_RESULT (06 R122). -/
def State.readCommitResultAnswer (s : State) : Option (State × List Byte) := some (s, commitBytes s.batch.result)

def State.readCommitResultQuery : State → State := State.query State.readCommitResultAnswer

/-- READ_COMMIT_RESULT (06 R122). -/
def execReadCommitResult (s : State) : Host.Outcome State Fault Refusal :=
  atCommandRegister State.readCommitResultQuery s

end Sys2Proof.Machine
end

