-- ==== Sys2Proof/Machine/Image.lean ====
section
/-! DEFINITION. The Image Loader: the image, its four sections, the end of the load and of the preload reload
(12 R183 to R187, R189; 01 R1, R2; 08 R139). -/

namespace Sys2Proof.Machine

/-! ### The NVM and the first pass (R183) -/

/-- What the NVM holds in the load in progress (log 4). -/
def State.nvm (s : State) : List Byte := (s.board.nvm[s.loads]?).getD (s.board.nvm.getLastD [])

/-- A byte of the NVM. The data output is pulled high: a byte the NVM does not hold reads 0xFF (R183; log 4). -/
def nvmByte (m : List Byte) (address : Nat) : Byte := m.getD address 0xFF#8

/-- The bits the NVM Port clocks out to begin a read: command 0x03, then a 24-bit byte address (R183). -/
def nvmReadCommand (address : Nat) : BitVec 32 := 0x03#8 ++ BitVec.ofNat 24 address

/-- The next `n` words clocked in after a command, each most significant byte first; a command that is no read is not
answered (R183). -/
def nvmAnswer (m : List Byte) (command : BitVec 32) (n : Nat) : List ImageWord :=
  let address := (command.setWidth 24).toNat
  (List.range n).map (fun k =>
    if command.extractLsb' 24 8 = 0x03#8 then nvmByte m (address + 2 * k) ++ nvmByte m (address + 2 * k + 1)
    else 0xFFFF#16)

/-- `n` words of the image from word `start` on; the image starts at byte address 0 (R183). -/
def nvmWords (m : List Byte) (start n : Nat) : List ImageWord := nvmAnswer m (nvmReadCommand (2 * start)) n

/-- A word of the image. -/
def nvmWord (m : List Byte) (k : Nat) : ImageWord := (nvmWords m k 1).headD 0xFFFF#16

def nvmNat (m : List Byte) (k : Nat) : Nat := (nvmWord m k).toNat

/-- The image length L. -/
def imageLength (m : List Byte) : Nat := nvmNat m 1

/-- The sum of words 0 to L-1 modulo 65536. -/
def imageSum (m : List Byte) : ImageWord := (nvmWords m 0 (imageLength m)).foldl (fun x w => x + w) 0#16

/-- The image fails as a whole (R183). -/
def imageFails (m : List Byte) : Bool :=
  nvmWord m 0 != 0x7C4E#16 || decide (imageLength m < 7) || imageSum m != 0#16

/-- Where a section lies: absent, misplaced, or its word offset and length (R183). -/
inductive SectionPlace where
  | absent
  | misplaced
  | placed (offset length : Nat)
  deriving DecidableEq, Repr

/-- The section whose offset stands in header word `k` (R183). -/
def sectionAt (m : List Byte) (k : Nat) : SectionPlace :=
  let offset := nvmNat m k
  if offset = 0xFFFF then .absent
  else if offset < 6 ∨ imageLength m ≤ offset + 1 then .misplaced
  else if imageLength m ≤ offset + 1 + nvmNat m offset then .misplaced
  else .placed offset (nvmNat m offset)

/-- The content words of a placed section. -/
def sectionContent (m : List Byte) (offset length : Nat) : List ImageWord := nvmWords m (offset + 1) length

def State.putWork (w : LoadWork) (s : State) : State := { s with loader := { s.loader with work := w } }

def State.putFlags (f : ImageFlags → ImageFlags) (s : State) : State :=
  { s with loader := { s.loader with flags := f s.loader.flags } }

/-- The count an IMAGE error carries: a larger number is given as 255 (10 R164). -/
def imageCount (n : Nat) : Nat := min n 255

/-- A section from which `n` items were skipped: its flag is set and IMAGE is reported, if there were any (R184 to R186). -/
def State.reportSkipped (item : ImageItem) (n : Nat) (set : ImageFlags → ImageFlags) (s : State) : State :=
  if n = 0 then s else State.report (.image item (some (imageCount n))) (s.putFlags set)

/-- The first pass (R183). -/
def State.loadCheck (s : State) : State :=
  if imageFails s.nvm then
    State.report (.image .header none) ((s.putFlags (fun f => { f with headerFail := true })).putWork .finish)
  else s.putWork .control

/-! ### The Control section (R184, R1, R2) -/

/-- What the pairs of the Control section have given so far. -/
structure ControlValues where
  settings : Settings
  pass : BitVec 8
  pageCode : Nat
  baseHigh : Nat
  baseMiddle : Nat
  baseLow : Nat
  fallback : Bool
  skipped : Nat
  deriving DecidableEq, Repr

/-- Every setting at its default, nothing skipped. -/
def ControlValues.start : ControlValues := ⟨Settings.reset, 0#8, 0, 0, 0, 0, false, 0⟩

/-- The setting takes the value when it is in range, else its default with CONTROL_FALLBACK (R184). -/
def ControlValues.take {α : Type} (c : ControlValues) (value : Option α) (default : α) (put : ControlValues → α → ControlValues) :
    ControlValues :=
  match value with
  | some v => put c v
  | none => { put c default with fallback := true }

/-- A number in the range 0 to `top`. -/
def upTo (top v : Nat) : Option Nat := if v ≤ top then some v else none

/-- One pair (R184). -/
def controlPair (id v : Nat) (c : ControlValues) : ControlValues :=
  if id = 0x0001 then { c with pageCode := v }
  else if id = 0x0002 then c.take (upTo 0xFF v) 0 (fun c x => { c with baseHigh := x })
  else if id = 0x0003 then { c with baseMiddle := v }
  else if id = 0x0004 then { c with baseLow := v }
  else if id = 0x0010 then
    c.take (snoopOfCode v) Settings.reset.snoop (fun c x => { c with settings := { c.settings with snoop := x } })
  else if id = 0x0011 then
    c.take (discardTimeOfCode v) Settings.reset.discardTime
      (fun c x => { c with settings := { c.settings with discardTime := x } })
  else if id = 0x0012 then
    c.take (drainTimeOfCode v) Settings.reset.drainTime
      (fun c x => { c with settings := { c.settings with drainTime := x } })
  else if id = 0x0013 then
    c.take (quarantineTimeOfCode v) Settings.reset.quarantineTime
      (fun c x => { c with settings := { c.settings with quarantineTime := x } })
  else if id = 0x0014 then
    c.take (fieldOfCode 4 v) Settings.reset.threshold
      (fun c x => { c with settings := { c.settings with threshold := x } })
  else if id = 0x0015 then
    c.take (fieldOfCode 7 v) Settings.reset.masks (fun c x => { c with settings := { c.settings with masks := x } })
  else if id = 0x0016 then
    c.take (fieldOfCode 9 v) Settings.reset.routeInt
      (fun c x => { c with settings := { c.settings with routeInt := x } })
  else if id = 0x0017 then
    c.take (fieldOfCode 9 v) Settings.reset.routeAlert
      (fun c x => { c with settings := { c.settings with routeAlert := x } })
  else if id = 0x0018 then
    c.take (fieldOfCode 5 v) Settings.reset.enables
      (fun c x => { c with settings := { c.settings with enables := x } })
  else if id = 0x0019 then c.take (fieldOfCode 8 v) 0#8 (fun c x => { c with pass := x })
  else { c with skipped := c.skipped + 1 }

/-- The pairs in the order they stand; an odd last word is one skipped pair (R184). -/
def controlPairs : List ImageWord → ControlValues → ControlValues
  | a :: b :: rest, c => controlPairs rest (controlPair a.toNat b.toNat c)
  | [_], c => { c with skipped := c.skipped + 1 }
  | [], c => c

/-- The page size of a page-size code, and whether it falls back (01 R1). -/
def pageSizeOf (code : Nat) : PageSize × Bool :=
  if code = 0 then (.k4, false) else if code = 1 then (.k64, false) else (.k4, true)

/-- The effective base: the bits of value below the window size are cleared (01 R2). -/
def effectiveBase (p : PageSize) (base : Nat) : Nat := base / windowBytes p * windowBytes p

/-- The window base the three parts give, 40 bits (R184). -/
def ControlValues.base (c : ControlValues) : Nat := (c.baseHigh * 65536 + c.baseMiddle) * 65536 + c.baseLow

/-- The settings, miss policies and window geometry are taken, then the flags and the report (R184, R1, R2). -/
def State.applyControl (c : ControlValues) (s : State) : State :=
  let page := pageSizeOf c.pageCode
  let fallback := c.fallback || page.2 || decide (effectiveBase page.1 c.base ≠ c.base)
  let s1 := { s with
    settings := { c.settings with shadowInt := s.settings.shadowInt, shadowAlert := s.settings.shadowAlert }
    store := { s.store with pageSize := page.1, base := BitVec.ofNat 40 (effectiveBase page.1 c.base) }
    requesters := { s.requesters with
      domains := tabulate (fun d => { s.requesters.domains[d] with pass := c.pass.getLsbD d.val }) } }
  let s2 := s1.putFlags (fun f => { f with controlFallback := f.controlFallback || fallback })
  s2.reportSkipped .control c.skipped (fun f => { f with controlSkipped := true })

/-- The Control section (R184). -/
def State.loadControl (s : State) : State :=
  State.putWork .requester
    (match sectionAt s.nvm 2 with
      | .absent => s.applyControl ControlValues.start
      | .misplaced => s.applyControl { ControlValues.start with skipped := 1 }
      | .placed offset length => s.applyControl (controlPairs (sectionContent s.nvm offset length) ControlValues.start))

/-! ### The Requester section (R185) -/

/-- What the records of the Requester section have given so far. -/
structure RequesterValues where
  defaults : Vector RequesterDefault 16
  taken : Nat
  named : List Nat
  skipped : Nat
  deriving DecidableEq, Repr

def RequesterValues.start : RequesterValues := ⟨Vector.replicate 16 RequesterDefault.reset, 0, [], 0⟩

/-- The record of two words, none when a field is out of range (R185). -/
def requesterRecord (a b : ImageWord) : Option (ReqId × RequesterDefault) :=
  match indexBelow 16 (a.toNat / 256), indexBelow 8 (b.toNat / 256), indexBelow 65 (b.toNat % 256) with
  | some r, some d, some l => if a.toNat % 256 ≤ 1 then some (r, ⟨a.toNat % 256 == 1, d, l⟩) else none
  | _, _, _ => none

/-- One record (R185; log 15). -/
def takeRequester (a b : ImageWord) (v : RequesterValues) : RequesterValues :=
  let id := a.toNat / 256
  let next := { v with taken := v.taken + 1, named := id :: v.named }
  match requesterRecord a b with
  | some (r, d) =>
    if v.taken < 16 ∧ v.named.contains id = false then { next with defaults := v.defaults.set r d }
    else { next with skipped := v.skipped + 1 }
  | none => { next with skipped := v.skipped + 1 }

/-- The records in the order they stand; a trailing odd word is one skipped record (R185). -/
def requesterRecords : List ImageWord → RequesterValues → RequesterValues
  | a :: b :: rest, v => requesterRecords rest (takeRequester a b v)
  | [_], v => { v with skipped := v.skipped + 1 }
  | [], v => v

/-- A live record loaded from its Requester Defaults (02 R23). -/
def liveFrom (d : RequesterDefault) : Requester :=
  ⟨if d.enabled then .enabled else .disabled, d.domain, d.limit, 0, none, none⟩

/-- The Requester Defaults are taken and the live records loaded from them (R185, 02 R23, R25). -/
def State.applyRequesters (v : RequesterValues) (s : State) : State :=
  State.reportSkipped .requester v.skipped (fun f => { f with requesterSkipped := true })
    { s with requesters := { s.requesters with defaults := v.defaults, live := tabulate (fun r => liveFrom v.defaults[r]) } }

/-- The Requester section (R185). -/
def State.loadRequesters (s : State) : State :=
  State.putWork .preloadStart
    (match sectionAt s.nvm 3 with
      | .absent => s.applyRequesters RequesterValues.start
      | .misplaced => s.applyRequesters { RequesterValues.start with skipped := 1 }
      | .placed offset length => s.applyRequesters (requesterRecords (sectionContent s.nvm offset length) RequesterValues.start))

/-! ### The Preload section (R186) -/

/-- The install of a preload record's three words, none when it is malformed or its domain set is empty (R186). -/
def preloadRecord (a b c : ImageWord) : Option (EntryIx × Placement) :=
  if a.getLsbD 13 || a.getLsbD 12 || c.setWidth 8 == 0#8 then none
  else some (entryIxOf (a.toNat % 4096),
    ⟨BitVec.ofNat 24 (b.toNat * 256 + c.toNat / 256), if a.getLsbD 15 then .readWrite else .readOnly,
      if a.getLsbD 14 then .direct else .snooped, c.setWidth 8⟩)

/-- What a read of the Preload section has done so far: the state, the indices installed, the records skipped. -/
structure PreloadRun where
  state : State
  installed : List Nat
  skipped : Nat

/-- One record: an accepted one installs its entry whole as LIVE (R186). The claim count, 0 unless storage damage has changed
it since the clearing, is kept as stored: DESIGN CHOICE (log 26). -/
def takePreload (a b c : ImageWord) (r : PreloadRun) : PreloadRun :=
  match preloadRecord a b c with
  | some (i, p) =>
    if r.installed.contains i.val then { r with skipped := r.skipped + 1 }
    else ⟨r.state.putEntry i (replaceEntry (r.state.entry i) (.live p)), i.val :: r.installed, r.skipped⟩
  | none => { r with skipped := r.skipped + 1 }

/-- The records in the order they stand; a trailing part-record is one skipped record (R186). -/
def preloadRecords : List ImageWord → PreloadRun → PreloadRun
  | a :: b :: c :: rest, r => preloadRecords rest (takePreload a b c r)
  | [], r => r
  | _, r => { r with skipped := r.skipped + 1 }

/-- The end of a read of the Preload section. Next comes the Freeze section, or in RELOADING the end (R186, R189). -/
def State.endPreload (skipped : Nat) (s : State) : State :=
  (s.reportSkipped .preload skipped (fun f => { f with preloadSkipped := true })).putWork
    (if s.loader.phase = .reloading then .finish else .freeze)

/-- The Preload section is found, and its place is captured for table resets (R186). -/
def State.loadPreloadStart (s : State) : State :=
  match sectionAt s.nvm 4 with
  | .absent => s.putWork (.preload [] [] 0)
  | .misplaced => s.putWork (.preload [] [] 1)
  | .placed offset length =>
    State.putWork (.preload (sectionContent s.nvm offset length) [] 0)
      { s with loader := { s.loader with capture := some ⟨offset, length⟩ } }

/-- One piece of the Preload section: the next record, or the end (R186). -/
def State.loadPreloadPiece (words : List ImageWord) (installed : List Nat) (skipped : Nat) (s : State) : State :=
  match words with
  | a :: b :: c :: rest =>
    let r := takePreload a b c ⟨s, installed, skipped⟩
    r.state.putWork (.preload rest r.installed r.skipped)
  | _ =>
    let r := preloadRecords words ⟨s, installed, skipped⟩
    r.state.endPreload r.skipped

/-- The rest of the Preload section. -/
def State.loadPreloadRest (words : List ImageWord) (installed : List Nat) (skipped : Nat) (s : State) : State :=
  let r := preloadRecords words ⟨s, installed, skipped⟩
  r.state.endPreload r.skipped

/-! ### The Freeze section (08 R139, R186) -/

/-- A Freeze section that is present but not applied still spends the acceptance (08 R139). -/
def State.skipFreeze (s : State) : State :=
  State.reportSkipped .freeze 1 (fun f => { f with freezeSkipped := true })
    { s with freeze := { s.freeze with rangeUsed := true } }

/-- The Freeze section (08 R139, R186). -/
def State.loadFreeze (s : State) : State :=
  State.putWork .finish
    (match sectionAt s.nvm 5 with
      | .absent => s
      | .misplaced => s.skipFreeze
      | .placed offset length =>
        if length = 2 then
          match rangeOf (nvmNat s.nvm (offset + 1)) (nvmNat s.nvm (offset + 2)) with
          | some r => { s with freeze := setRange r.lower r.upper s.freeze }
          | none => s.skipFreeze
        else s.skipFreeze)

/-! ### The end (R187, R189, 11 R180) -/

/-- Each shadow equal to the lower byte of its setting's latched value (11 R180). -/
def equalizeShadows (st : Settings) : Settings :=
  { st with shadowInt := st.routeInt.setWidth 8, shadowAlert := st.routeAlert.setWidth 8 }

/-- The phase becomes RUNNING and BOOT_DONE is raised; at the end of the image load the shadows are made equal (R187,
R189, 11 R180). -/
def State.enterRunning (s : State) : State :=
  State.raise .bootDone { s with
    settings := if s.loader.phase = .loading then equalizeShadows s.settings else s.settings
    loader := { s.loader with phase := .running, work := .nothing } }

/-- The loader's next piece of work. -/
def State.loadPiece (s : State) : State :=
  match s.loader.work with
  | .check => s.loadCheck
  | .control => s.loadControl
  | .requester => s.loadRequesters
  | .preloadStart => s.loadPreloadStart
  | .preload words installed skipped => s.loadPreloadPiece words installed skipped
  | .freeze => s.loadFreeze
  | .finish => s
  | .nothing => s

/-- From inside the Preload section to the end of the last section. -/
def State.loadFromPreload (s : State) : State :=
  match s.loader.work with
  | .preload words installed skipped => s.loadPreloadRest words installed skipped
  | _ => s

def State.loadFromFreeze (s : State) : State := if s.loader.work = .freeze then s.loadFreeze else s

def State.loadFromPreloadStart (s : State) : State :=
  if s.loader.work = .preloadStart then s.loadPreloadStart else s

def State.loadFromRequesters (s : State) : State := if s.loader.work = .requester then s.loadRequesters else s

def State.loadFromControl (s : State) : State := if s.loader.work = .control then s.loadControl else s

def State.loadFromCheck (s : State) : State := if s.loader.work = .check then s.loadCheck else s

/-- All that is left of the load, in the fixed order of R183. -/
def State.loadRest (s : State) : State :=
  s.loadFromCheck.loadFromControl.loadFromRequesters.loadFromPreloadStart.loadFromPreload.loadFromFreeze

/-- IMAGE_LOAD_DONE (R187), in LOADING with the RESET line high. -/
def execImageLoadDone (s : State) : Host.Outcome State Fault Refusal :=
  if s.loader.phase = .loading ∧ s.resetLow = false then .next s.loadRest.enterRunning else .next s

/-- PRELOAD_RELOAD_DONE (R189), in RELOADING. -/
def execPreloadReloadDone (s : State) : Host.Outcome State Fault Refusal :=
  if s.loader.phase = .reloading then .next s.loadFromPreload.enterRunning else .next s

/-! ### Time (log 2, log 5) -/

/-- The loader is at work: the part is starting and RESET is not held low (R187). -/
def State.loaderWorks (s : State) : Bool := s.loader.phase != .running && !s.resetLow

/-- In a ns in which nothing waits and nothing is due, the loader takes its next piece or not (a free value); the piece
that ends the load is left to IMAGE_LOAD_DONE or PRELOAD_RELOAD_DONE (log 5). -/
def State.loadTick (s : State) : State :=
  if s.loaderWorks then
    let s1 := { s with free := s.free + 1 }
    let s2 := s1.loadPiece
    if Config.loaderAdvances s.free = true ∧ s2.loader.work ≠ .finish then s2 else s1
  else s

/-- A ns passes (log 2). -/
def State.tick (s : State) : State :=
  let s1 := s.loadTick
  { s1 with now := s1.now + 1 }

end Sys2Proof.Machine
end

