-- ==== Sys2Proof/Machine/Reset.lean ====
section
/-! DEFINITION. Full reset (12 R187) and table reset (12 R188). -/

namespace Sys2Proof.Machine

/-! ### Full reset -/

/-- The start of a full reset (R187): every block takes its full-reset values. The board, the RESET line and the model's own
fields are as `s` has them; the Commit Result takes the value R122 gives it. -/
def State.fullReset (result : CommitResult) (transaction : Transaction) (s : State) : State :=
  { State.reset with
    batch := BatchUnit.reset result
    mgmt := ManagementPort.reset s.board transaction
    board := s.board
    resetLow := s.resetLow
    loads := s.loads
    now := s.now
    free := s.free
    pending := s.pending }

/-- The Commit Result after the RESET line or FULL_RESET: ABANDONED when a commit was in progress (06 R122). -/
def abandonedResult (x : Staging) : CommitResult :=
  match x with
  | .committing g _ ops _ _ _ => .abandoned g ops.length
  | _ => .none

/-- What a reset leaves of a transaction: one in progress is cut off (11 R181; log 17). -/
def cutTransaction (t : Transaction) : Transaction := if t = .none then .none else .cutOff

/-- POWER_ON (R187): a full reset on a board with these straps and this NVM, the RESET line high (log 3, log 9). -/
def execPowerOn (board : Board) (s : State) : Host.Outcome State Fault Refusal :=
  .next (State.fullReset .none .none { s with board := board, resetLow := false, loads := 0 })

/-- RESET_ASSERT (R187): the RESET line goes low. With the line low already, no event. -/
def execResetAssert (s : State) : Host.Outcome State Fault Refusal :=
  if s.resetLow then .next s
  else .next (State.fullReset (abandonedResult s.batch.staging) (cutTransaction s.mgmt.transaction)
    { s with resetLow := true, loads := s.loads + 1 })

/-- RESET_RELEASE (R187): the load begins. With the line high already, no event. -/
def execResetRelease (s : State) : Host.Outcome State Fault Refusal := .next { s with resetLow := false }

/-- FULL_RESET at its dispatch (R187, 11 R181): no abort and no status is recorded, and the pointer is 0x00. -/
def State.fullResetCommand (s : State) : State :=
  State.fullReset (abandonedResult s.batch.staging) (cutTransaction s.mgmt.transaction)
    { s with loads := s.loads + 1 }

/-- FULL_RESET (11 R181). -/
def execFullReset (s : State) : Host.Outcome State Fault Refusal :=
  if s.writesAt 0x5C#7 then .next s.fullResetCommand else .next s

/-! ### Table reset -/

/-- Steps 2 and 5 for one claim record: carried ones are freed, the other ACTIVE ones orphaned (R188, 04 R66). -/
def State.claimAfterTableReset (s : State) (t : Tag) : ClaimRecord :=
  if (s.carrier t).isSome then .free else orphan s.claims[t]

/-- Step 3: a COMMITTING commit is abandoned (06 R123). -/
def State.abandonCommit (s : State) : State :=
  match s.batch.staging with
  | .committing g _ ops _ _ _ => ((s.putResult (.abandoned g ops.length)).putStaging .idle).putLockMark none
  | _ => s.putLockMark none

/-- Step 4: a walk not IDLE is cancelled (09 R163). -/
def State.cancelWalk (s : State) : State :=
  match s.sweep.walk with
  | some w => s.endWalk w .cancelled
  | none => s

/-- The words of the captured Preload section, as the NVM holds them now; the header is not read (R189). -/
def capturedWords (m : List Byte) (c : Option PreloadPlace) : List ImageWord :=
  match c with
  | some x => sectionContent m x.offset x.length
  | none => []

/-- The acceptance of TABLE_RESET (R188), its steps in their order. -/
def State.acceptTableReset (s : State) : State :=
  let s1 := { s with loader := { s.loader with phase := .reloading }, loads := s.loads + 1 }
  let s2 := { s1 with claims := tabulate s1.claimAfterTableReset, queue := PendingQueue.reset }
  let s4 := s2.abandonCommit.cancelWalk
  { s4 with
    drain := []
    store := { s4.store with entries := [] }
    loader := { s4.loader with
      flags := { s4.loader.flags with preloadSkipped := false }
      work := .preload (capturedWords s4.nvm s4.loader.capture) [] 0 } }

def State.tableResetTests (s : State) : State × CommandEnd := (s.acceptTableReset, .busyStarted)

def State.tableReset : State → State := State.interrupting State.tableResetTests

/-- TABLE_RESET (R188). -/
def execTableReset (s : State) : Host.Outcome State Fault Refusal := atCommandRegister State.tableReset s

end Sys2Proof.Machine
end

