-- ==== Sys2Proof/WellFormed.lean ====
section
/-! DEFINITION. Which terms of `Instr` are the row they are a constructor of. Index ranges and field widths are in the
types; what is left is checked here. -/

namespace Sys2Proof

/-- The command codes of the command table (11 R181). -/
def commandCodes : List Byte :=
  [0x01#8, 0x02#8, 0x03#8, 0x04#8,
   0x10#8, 0x11#8, 0x12#8, 0x13#8,
   0x20#8, 0x21#8, 0x22#8, 0x23#8, 0x24#8,
   0x30#8, 0x40#8, 0x41#8, 0x42#8, 0x50#8, 0x60#8, 0x61#8,
   0x70#8, 0x71#8, 0x72#8, 0x73#8, 0x74#8, 0x75#8, 0x76#8]

/-- Kind codes 1, 2 and 3 are RESOLVE, RELEASE and SLOT_RESET; the others are malformed (03 R43, R44). -/
def malformedKind (kind : BitVec 3) : Bool :=
  !(kind == 1#3 || kind == 2#3 || kind == 3#3)

/-- The NVM is addressed by a 24-bit byte address, so it has at most 2^24 bytes (12 R183). -/
def nvmBytesMax : Nat := 16777216

/-- A term is well formed when it is an event of the row its constructor stands for. -/
def Instr.wf : Instr → Bool
  | .malformedRequest kind => malformedKind kind
  | .powerOn board => board.nvm.all (fun m => decide (m.length ≤ nvmBytesMax))
  | .undefinedCommandCode code => !(commandCodes.contains code)
  | .alertAssertedClear value => value.getLsbD 0
  | .overrideClear value => value.getLsbD 1
  | .overrideSet value => value.getLsbD 2
  | .resolve _ _ _ _ | .release _ _ | .slotReset _ | .rspTaken | .requesterClearingFree _
  | .requesterClearingCompletion _ | .quarantineDeadlineExpiry _ | .discardDeadlineExpiry _ | .drainExpiry _
  | .commitValidation | .commitApplication | .commitCompletion | .sweepStep | .scrubStep | .sweepRetake
  | .imageLoadDone | .preloadReloadDone | .resetAssert | .resetRelease
  | .batchOpen | .batchLoad | .batchCommit | .batchDiscard | .freezeGroup | .thawGroup | .freezeAll | .freezeRange
  | .domainSweep | .scrub | .sweepSuspend | .sweepResume | .sweepCancel | .forceDrain | .domainSet | .requesterSet
  | .requesterReset | .clearErrors | .tableReset | .fullReset | .readEntry | .readClaim | .readPending | .readDrain
  | .readRequester | .readSweepResult | .readCommitResult | .eventRegisterRead _ | .singleByteSettingWrite _
  | .settingLowerByteWrite _ | .settingHigherByteWrite _ | .multiByteCaptureRead _ | .pointerSet _ _
  | .registerWrite _ _ | .storageDamage _ _ | .transactionEnd _ => true

end Sys2Proof
end

