-- ==== Sys2Proof/Machine/Window.lean ====
section
/-! DEFINITION. The register window and its transactions (11 R175 to R181; 10 R167, R171, R173), and storage damage
(01 R20). -/

namespace Sys2Proof.Machine

/-! ### What an address shows (R178, R179) -/

def stagingCode : Staging → Nat
  | .idle => 0
  | .loading _ _ _ => 1
  | .loaded _ _ _ => 2
  | .committing _ _ _ _ _ _ => 3

/-- Group, declared count and ops of the Staging Buffer; absent in IDLE (06 R101). -/
def stagingFields : Staging → Option (Group × Nat × Nat)
  | .idle => none
  | .loading g n ops => some (g, n, ops.length)
  | .loaded g n ops => some (g, n, ops.length)
  | .committing g n ops _ _ _ => some (g, n, ops.length)

/-- 0x05: the Staging Buffer. -/
def batchByte (b : BatchUnit) : Byte :=
  BitVec.ofNat 8 (stagingCode b.staging + 8 * ((b.abort.map abortCode).getD 0)) ||| bitAt 2 b.abort.isSome

/-- State code of the engine's walk; IDLE is 0. -/
def walkStateCode : WalkState → Nat
  | .running => 1
  | .waitingDrain => 2
  | .suspending _ => 3
  | .suspended => 4

/-- 0x0E: the Sweep Engine. -/
def sweepByte (w : Option Walk) : Byte :=
  match w with
  | none => 0#8
  | some w =>
    let kind := match w.kind with
      | .domainSweep d => 16 * d.val
      | .scrub => 8
    BitVec.ofNat 8 (walkStateCode w.state + kind) ||| bitAt 7 (w.state == .suspending true)

/-- The cursor, 0 when absent. -/
def State.cursorValue (s : State) : BitVec 16 := BitVec.ofNat 16 ((s.sweep.walk.map (·.cursor.val)).getD 0)

/-- The five bytes of detail, lowest first, as one number (R179): 0x31, 0x32, 0x33-0x34, 0x35. -/
def detailNat (first second entry presence : Nat) : Nat := first + 256 * second + 65536 * entry + 4294967296 * presence

/-- R179's table. -/
def errorDetail (e : ErrorRecord) : Nat :=
  match e with
  | .parity i f => detailNat 0 (finderCode f) i.val 0b110
  | .discard r k => detailNat r.val k.val 0 0b011
  | .drainExpired i n => detailNat 0 n i.val 0b110
  | .batchAbort r => detailNat (abortCode r) 0 0 0b001
  | .commitReject r (some i) => detailNat (rejectCode r) 0 i.val 0b101
  | .commitReject r none => detailNat (rejectCode r) 0 0 0b001
  | .requesterFault r k => detailNat r.val (faultCode k) 0 0b011
  | .quarantine r => detailNat r.val 0 0 0b001
  | .portProtocol k => detailNat k.toNat 0 0 0b001
  | .image x (some n) => detailNat (imageItemCode x) n 0 0b011
  | .image x none => detailNat (imageItemCode x) 0 0 0b001

/-- 0x30-0x35 as one value, 0 when the record is empty (R178, R179). -/
def firstErrorValue (e : Option ErrorRecord) : BitVec 48 :=
  match e with
  | some x => BitVec.ofNat 48 (errorCode x + 256 * errorDetail x)
  | none => 0#48

/-- The number of FREE claim records (0x09). -/
def State.freeClaims (s : State) : Nat := (List.finRange 64).countP (fun t => s.claims[t] == .free)

/-- The number of EMPTY pending slots (0x0A). -/
def State.emptySlots (s : State) : Nat := (List.finRange 8).countP (fun k => s.queue[k] == .empty)

/-- The multi-byte values a read captures at their lowest byte (R177; log 14): lowest address, width in bytes. -/
inductive CapturedValue where
  | cursor
  | freezeMarks
  | firstError
  | nextErrors
  | base
  deriving DecidableEq, Repr

/-- The captured value an address is a byte of, and the byte's number. -/
def capturedAt (a : Nat) : Option (CapturedValue × Nat) :=
  if 0x0F ≤ a ∧ a ≤ 0x10 then some (.cursor, a - 0x0F)
  else if 0x15 ≤ a ∧ a ≤ 0x24 then some (.freezeMarks, a - 0x15)
  else if 0x30 ≤ a ∧ a ≤ 0x35 then some (.firstError, a - 0x30)
  else if 0x36 ≤ a ∧ a ≤ 0x37 then some (.nextErrors, a - 0x36)
  else if 0x41 ≤ a ∧ a ≤ 0x45 then some (.base, a - 0x41)
  else none

/-- The value as it stands. -/
def State.standing (s : State) (v : CapturedValue) : Nat :=
  match v with
  | .cursor => s.cursorValue.toNat
  | .freezeMarks => s.freeze.marks.toNat
  | .firstError => (firstErrorValue s.errors.first).toNat
  | .nextErrors => s.errors.next.toNat
  | .base => s.store.base.toNat

/-- The value captured in this transaction, if it was. -/
def capturedIn (c : Captures) (v : CapturedValue) : Option Nat :=
  match v with
  | .cursor => c.cursor.map (·.toNat)
  | .freezeMarks => c.freezeMarks.map (·.toNat)
  | .firstError => c.firstError.map (·.toNat)
  | .nextErrors => c.nextErrors.map (·.toNat)
  | .base => c.base.map (·.toNat)

/-- The captures after the value's lowest byte has been read. -/
def captureIn (c : Captures) (v : CapturedValue) (n : Nat) : Captures :=
  match v with
  | .cursor => { c with cursor := some (BitVec.ofNat 16 n) }
  | .freezeMarks => { c with freezeMarks := some (BitVec.ofNat 128 n) }
  | .firstError => { c with firstError := some (BitVec.ofNat 48 n) }
  | .nextErrors => { c with nextErrors := some (BitVec.ofNat 16 n) }
  | .base => { c with base := some (BitVec.ofNat 40 n) }

/-- The status bytes 0x00 to 0x14 that are no captured value. -/
def State.statusByte (s : State) (a : Nat) : Byte :=
  let batch := stagingFields s.batch.staging
  if a = 0x00 then 0x60#8
  else if a = 0x01 then 0x41#8
  else if a = 0x02 then 0x01#8
  else if a = 0x03 then BitVec.ofNat 8 (phaseCode s.loader.phase) ||| bitAt 7 s.errors.first.isSome
  else if a = 0x04 then imageFlagsByte s.loader.flags
  else if a = 0x05 then batchByte s.batch
  else if a = 0x06 then BitVec.ofNat 8 ((batch.map (·.1.val)).getD 0)
  else if a = 0x07 then BitVec.ofNat 8 ((batch.map (·.2.1)).getD 0)
  else if a = 0x08 then BitVec.ofNat 8 ((batch.map (·.2.2)).getD 0)
  else if a = 0x09 then BitVec.ofNat 8 s.freeClaims
  else if a = 0x0A then BitVec.ofNat 8 s.emptySlots
  else if a = 0x0B then BitVec.ofNat 8 s.drain.length
  else if a = 0x0C then s.closingSet
  else if a = 0x0D then s.passSet
  else if a = 0x0E then sweepByte s.sweep.walk
  else if a = 0x11 then BitVec.ofNat 8 (countOnes s.freeze.marks)
  else if a = 0x12 then bitAt 0 s.freeze.range.isSome ||| bitAt 1 s.freeze.rangeUsed
  else if a = 0x13 then BitVec.ofNat 8 ((s.freeze.range.map (·.lower.val)).getD 0)
  else if a = 0x14 then BitVec.ofNat 8 ((s.freeze.range.map (·.upper.val)).getD 0)
  else 0#8

/-- A setting as read: the latched value, never the shadow (R180). -/
def settingByte (st : Settings) (a : Nat) : Byte :=
  if a = 0x3A then st.enables.setWidth 8
  else if a = 0x46 then BitVec.ofNat 8 (snoopCode st.snoop)
  else if a = 0x47 then BitVec.ofNat 8 (discardTimeCode st.discardTime)
  else if a = 0x48 then BitVec.ofNat 8 (drainTimeCode st.drainTime)
  else if a = 0x49 then BitVec.ofNat 8 (quarantineTimeCode st.quarantineTime)
  else if a = 0x4A then st.threshold.setWidth 8
  else if a = 0x4B then st.masks.setWidth 8
  else if a = 0x4C then byteOf 0 st.routeInt.toNat
  else if a = 0x4D then byteOf 1 st.routeInt.toNat
  else if a = 0x4E then byteOf 0 st.routeAlert.toNat
  else if a = 0x4F then byteOf 1 st.routeAlert.toNat
  else 0#8

/-- Operands, command status, reason and results, 0x50 to 0x7F. The command register reads 0. -/
def portByte (m : ManagementPort) (a : Nat) : Byte :=
  if 0x50 ≤ a ∧ a ≤ 0x5B then m.operands[(Fin.ofNat 12 (a - 0x50))]
  else if a = 0x5D then BitVec.ofNat 8 (statusCode m.status)
  else if a = 0x5E then BitVec.ofNat 8 ((m.reason.map refusalCode).getD 0)
  else if 0x60 ≤ a ∧ a ≤ 0x7F then m.results[(Fin.ofNat 32 (a - 0x60))]
  else 0#8

/-- The byte an address shows that is no byte of a captured value (R178). The bits the window's table does not name, such
as bits 5 to 7 of the event register, read 0: DESIGN CHOICE (log 24). -/
def State.plainByte (s : State) (a : Nat) : Byte :=
  if a < 0x15 then s.statusByte a
  else if a = 0x38 then alertControlByte s.errors
  else if a = 0x39 then s.errors.events.setWidth 8
  else if a = 0x40 then BitVec.ofNat 8 (match s.store.pageSize with
    | .k4 => 0
    | .k64 => 1)
  else if a < 0x50 then settingByte s.settings a
  else portByte s.mgmt a

/-- The byte read at an address, and the captures after the read (R177). -/
def State.byteRead (s : State) (a : Nat) : Byte × Captures :=
  match capturedAt a with
  | some (v, k) =>
    let c := if k = 0 then captureIn s.mgmt.captures v (s.standing v) else s.mgmt.captures
    (byteOf k ((capturedIn c v).getD (s.standing v)), c)
  | none => (s.plainByte a, s.mgmt.captures)

/-! ### Reading a byte (R176, R177, 10 R171) -/

/-- The bus is the selected one, and an I2C byte is for this part (R175, R176). -/
def State.selects (s : State) (b : Bus) : Bool :=
  match b with
  | .i2c d => s.mgmt.mode == .i2c && d == s.mgmt.device
  | .spi => s.mgmt.mode == .spi

/-- The part acknowledges its own I2C address, in either direction, and every byte written to it, taken or not: it refuses
nothing at the bus level (R176). -/
def State.acknowledges (s : State) (b : Bus) : Bool :=
  match b with
  | .i2c _ => s.selects b
  | .spi => false

/-- The bus of a byte read. -/
def busOf (b : ReadBus) : Bus :=
  match b with
  | .i2c d _ => .i2c d
  | .spi => .spi

/-- The part can send a byte: in a read, or at the start of an I2C one (R176, R177; log 10). After the master's
not-acknowledge it cannot until a stop or a start condition (R176). -/
def State.readable (s : State) (b : Bus) : Bool :=
  s.selects b && (s.mgmt.transaction == .reading || (s.mgmt.transaction == .none && s.mgmt.mode == .i2c))

/-- The read after a byte of it: ended by the master's not-acknowledge, else going on (R176, R177). -/
def readAfter (b : ReadBus) : Transaction :=
  match b with
  | .i2c _ false => .stopped
  | .i2c _ true => .reading
  | .spi => .reading

/-- The byte at the pointer is sent, the pointer advances; the event register's flags become CLEAR as they are read. The byte
counts as read whether or not the master acknowledges it (R176). -/
def State.readNext (b : ReadBus) (s : State) : State :=
  let r := s.byteRead s.mgmt.pointer.toNat
  { s with
    mgmt := { s.mgmt with
      transaction := readAfter b, captures := r.2, sent := some r.1, pointer := s.mgmt.pointer + 1#7 }
    errors := { s.errors with events := if s.mgmt.pointer = 0x39#7 then 0#5 else s.errors.events } }

/-- MULTI_BYTE_CAPTURE_READ (R177): the byte at the pointer is read, whatever the address (log 10). -/
def execMultiByteCaptureRead (bus : ReadBus) (s : State) : Host.Outcome State Fault Refusal :=
  if s.readable (busOf bus) then .next (s.readNext bus) else .next s

/-- EVENT_REGISTER_READ (10 R171): the byte read is the event register. -/
def execEventRegisterRead (bus : ReadBus) (s : State) : Host.Outcome State Fault Refusal :=
  if s.readable (busOf bus) ∧ s.mgmt.pointer = 0x39#7 then .next (s.readNext bus) else .next s

/-! ### Writing settings (R180) -/

/-- A setting takes the value its code gives; an undefined code is ignored as a whole. -/
def latch {α : Type} (value : Option α) (put : α → Settings) (st : Settings) : Settings :=
  match value with
  | some v => put v
  | none => st

/-- A single-byte setting or the event enables, latched as the byte is written. -/
def writeSingle (a : Nat) (v : Byte) (st : Settings) : Settings :=
  let n := v.toNat
  if a = 0x3A then latch (fieldOfCode 5 n) (fun x => { st with enables := x }) st
  else if a = 0x46 then latch (snoopOfCode n) (fun x => { st with snoop := x }) st
  else if a = 0x47 then latch (discardTimeOfCode n) (fun x => { st with discardTime := x }) st
  else if a = 0x48 then latch (drainTimeOfCode n) (fun x => { st with drainTime := x }) st
  else if a = 0x49 then latch (quarantineTimeOfCode n) (fun x => { st with quarantineTime := x }) st
  else if a = 0x4A then latch (fieldOfCode 4 n) (fun x => { st with threshold := x }) st
  else if a = 0x4B then latch (fieldOfCode 7 n) (fun x => { st with masks := x }) st
  else st

/-- The lower byte of a two-byte setting is held in its shadow. -/
def writeLower (a : Nat) (v : Byte) (st : Settings) : Settings :=
  if a = 0x4C then { st with shadowInt := v } else if a = 0x4E then { st with shadowAlert := v } else st

/-- The value the higher byte and the shadow make, when it is defined. -/
def twoByteValue (hi shadow : Byte) : Option (BitVec 9) := fieldOfCode 9 (256 * hi.toNat + shadow.toNat)

/-- The higher byte latches the whole value; an ignored latch makes the shadow equal to the lower byte kept. -/
def writeHigher (a : Nat) (v : Byte) (st : Settings) : Settings :=
  if a = 0x4D then
    match twoByteValue v st.shadowInt with
    | some x => { st with routeInt := x }
    | none => { st with shadowInt := st.routeInt.setWidth 8 }
  else if a = 0x4F then
    match twoByteValue v st.shadowAlert with
    | some x => { st with routeAlert := x }
    | none => { st with shadowAlert := st.routeAlert.setWidth 8 }
  else st

def isSingleSetting (a : Nat) : Bool := a == 0x3A || (decide (0x46 ≤ a) && decide (a ≤ 0x4B))

def isLowerByte (a : Nat) : Bool := a == 0x4C || a == 0x4E

def isHigherByte (a : Nat) : Bool := a == 0x4D || a == 0x4F

/-- A setting write; ignored in LOADING. -/
def State.writeSetting (f : Settings → Settings) (s : State) : State :=
  if s.loader.phase = .loading then s else { s with settings := f s.settings }

/-- A byte of a write transaction goes to an address of the kind. -/
def State.writesIn (p : Nat → Bool) (s : State) : Bool := s.mgmt.transaction == .writing && p s.mgmt.pointer.toNat

/-- SINGLE_BYTE_SETTING_WRITE (R180). -/
def execSingleByteSettingWrite (value : Byte) (s : State) : Host.Outcome State Fault Refusal :=
  if s.writesIn isSingleSetting then .next (s.writeSetting (writeSingle s.mgmt.pointer.toNat value)).byteTaken
  else .next s

/-- SETTING_LOWER_BYTE_WRITE (R180). -/
def execSettingLowerByteWrite (value : Byte) (s : State) : Host.Outcome State Fault Refusal :=
  if s.writesIn isLowerByte then .next (s.writeSetting (writeLower s.mgmt.pointer.toNat value)).byteTaken else .next s

/-- SETTING_HIGHER_BYTE_WRITE (R180). -/
def execSettingHigherByteWrite (value : Byte) (s : State) : Host.Outcome State Fault Refusal :=
  if s.writesIn isHigherByte then .next (s.writeSetting (writeHigher s.mgmt.pointer.toNat value)).byteTaken else .next s

/-! ### Writing the ALERT control byte (10 R173) -/

/-- The ALERT control byte is written; taken in every phase. -/
def State.writeAlert (v : Byte) (s : State) : State := { s with errors := writeAlertControl v s.errors }

/-- ALERT_ASSERTED_CLEAR (10 R173): a byte with bit 0 set (log 11). -/
def execAlertAssertedClear (value : Byte) (s : State) : Host.Outcome State Fault Refusal :=
  if s.writesAt 0x38#7 ∧ value.getLsbD 0 then .next (s.writeAlert value).byteTaken else .next s

/-- OVERRIDE_CLEAR (10 R173): a byte with bit 1 set (log 11). -/
def execOverrideClear (value : Byte) (s : State) : Host.Outcome State Fault Refusal :=
  if s.writesAt 0x38#7 ∧ value.getLsbD 1 then .next (s.writeAlert value).byteTaken else .next s

/-- OVERRIDE_SET (10 R173): a byte with bit 2 set (log 11). -/
def execOverrideSet (value : Byte) (s : State) : Host.Outcome State Fault Refusal :=
  if s.writesAt 0x38#7 ∧ value.getLsbD 2 then .next (s.writeAlert value).byteTaken else .next s

/-! ### Dispatching a command (R181) -/

/-- UNDEFINED_COMMAND_CODE (R181): refused BAD_OPERAND, and it aborts no batch. -/
def State.undefinedCommand (s : State) : State := s.setStatus (.refused .badOperand)

def execUndefinedCommandCode (code : Byte) (s : State) : Host.Outcome State Fault Refusal :=
  if commandCodes.contains code then .next s else atCommandRegister State.undefinedCommand s

/-- The effect of a batch or freeze command's code, if it is one (R181). -/
def lowCommand (code : Byte) : Option (State → State) :=
  if code = 0x01#8 then some State.batchOpen
  else if code = 0x02#8 then some State.batchLoad
  else if code = 0x03#8 then some State.batchCommit
  else if code = 0x04#8 then some State.batchDiscard
  else if code = 0x10#8 then some State.freezeGroup
  else if code = 0x11#8 then some State.thawGroup
  else if code = 0x12#8 then some State.freezeAll
  else if code = 0x13#8 then some State.freezeRange
  else if code = 0x20#8 then some State.domainSweep
  else if code = 0x21#8 then some State.scrub
  else if code = 0x22#8 then some State.sweepSuspend
  else if code = 0x23#8 then some State.sweepResume
  else if code = 0x24#8 then some State.sweepCancel
  else none

/-- The effect of another command's code, if it is one; FULL_RESET apart (R181). -/
def highCommand (code : Byte) : Option (State → State) :=
  if code = 0x30#8 then some State.forceDrain
  else if code = 0x40#8 then some State.domainSet
  else if code = 0x41#8 then some State.requesterSet
  else if code = 0x42#8 then some State.requesterReset
  else if code = 0x50#8 then some State.clearErrors
  else if code = 0x60#8 then some State.tableReset
  else if code = 0x70#8 then some State.readEntryQuery
  else if code = 0x71#8 then some State.readClaimQuery
  else if code = 0x72#8 then some State.readPendingQuery
  else if code = 0x73#8 then some State.readDrainQuery
  else if code = 0x74#8 then some State.readRequesterQuery
  else if code = 0x75#8 then some State.readSweepResultQuery
  else if code = 0x76#8 then some State.readCommitResultQuery
  else none

/-- A code written to the command register (R181). After FULL_RESET the rest of the transaction is not taken. -/
def State.dispatch (code : Byte) (s : State) : State :=
  if code = 0x61#8 then s.fullResetCommand
  else (((lowCommand code).orElse (fun _ => highCommand code)).getD State.undefinedCommand s).byteTaken

/-! ### Transactions (R176, R177) -/

/-- POINTER_SET: the first byte of an I2C write or of an SPI transaction; bit 7 is the read flag of SPI alone. -/
def State.setPointer (v : Byte) (s : State) : State :=
  { s with mgmt := { s.mgmt with
    pointer := v.setWidth 7
    captures := Captures.none
    transaction := if s.mgmt.mode = .spi ∧ v.getLsbD 7 then .reading else .writing
    sent := if s.mgmt.mode = .spi then some 0#8 else none } }

/-- POINTER_SET (R176, R177): it begins a transaction, so none may be in progress. -/
def execPointerSet (bus : Bus) (value : Byte) (s : State) : Host.Outcome State Fault Refusal :=
  if s.selects bus ∧ s.mgmt.transaction = .none then .next (s.setPointer value) else .next s

/-- A byte written to an address other than the command register (R178). -/
def State.storeByte (a : Nat) (v : Byte) (s : State) : State :=
  if a = 0x38 then s.writeAlert v
  else if isSingleSetting a then s.writeSetting (writeSingle a v)
  else if isLowerByte a then s.writeSetting (writeLower a v)
  else if isHigherByte a then s.writeSetting (writeHigher a v)
  else if 0x50 ≤ a ∧ a ≤ 0x5B then
    { s with mgmt := { s.mgmt with operands := s.mgmt.operands.set (Fin.ofNat 12 (a - 0x50)) v } }
  else s

/-- A byte is written at the pointer (R178): it does whatever its address does. -/
def State.writeNext (v : Byte) (s : State) : State :=
  if s.mgmt.pointer = 0x5C#7 then s.dispatch v else (s.storeByte s.mgmt.pointer.toNat v).byteTaken

/-- REGISTER_WRITE (R178), in a write transaction on the selected interface (log 10). -/
def execRegisterWrite (bus : Bus) (value : Byte) (s : State) : Host.Outcome State Fault Refusal :=
  if s.selects bus ∧ s.mgmt.transaction = .writing then .next (s.writeNext value) else .next s

/-- TRANSACTION_END (R176, R177): an I2C stop or start condition, or SPI select rising, on the selected interface. The
captures end with the transaction. -/
def execTransactionEnd (iface : Interface) (s : State) : Host.Outcome State Fault Refusal :=
  if iface = s.mgmt.mode then
    .next { s with mgmt := { s.mgmt with transaction := .none, captures := Captures.none, sent := none } }
  else .next s

/-! ### Storage damage (01 R20) -/

/-- STORAGE_DAMAGE: what is stored for the entry becomes this; nothing notices it until a read (01 R20; log 8). -/
def execStorageDamage (entry : EntryIx) (stored : GrantEntry) (s : State) : Host.Outcome State Fault Refusal :=
  .next (s.putEntry entry stored)

end Sys2Proof.Machine
end

