-- ==== Sys2Proof/Machine/Dispatch.lean ====
section
/-! DEFINITION. The meaning of every command: one arm per constructor of `Instr`. -/

namespace Sys2Proof.Machine

def exec (i : Instr) (s : State) : Host.Outcome State Fault Refusal :=
  match i with
  | .resolve requester address dir claim => Sys2Proof.Machine.execResolve requester address dir claim s
  | .release requester tag => Sys2Proof.Machine.execRelease requester tag s
  | .slotReset requester => Sys2Proof.Machine.execSlotReset requester s
  | .malformedRequest kind => Sys2Proof.Machine.execMalformedRequest kind s
  | .rspTaken => Sys2Proof.Machine.execRspTaken s
  | .requesterClearingFree requester => Sys2Proof.Machine.execRequesterClearingFree requester s
  | .requesterClearingCompletion requester => Sys2Proof.Machine.execRequesterClearingCompletion requester s
  | .quarantineDeadlineExpiry requester => Sys2Proof.Machine.execQuarantineDeadlineExpiry requester s
  | .discardDeadlineExpiry slot => Sys2Proof.Machine.execDiscardDeadlineExpiry slot s
  | .drainExpiry position => Sys2Proof.Machine.execDrainExpiry position s
  | .commitValidation => Sys2Proof.Machine.execCommitValidation s
  | .commitApplication => Sys2Proof.Machine.execCommitApplication s
  | .commitCompletion => Sys2Proof.Machine.execCommitCompletion s
  | .sweepStep => Sys2Proof.Machine.execSweepStep s
  | .scrubStep => Sys2Proof.Machine.execScrubStep s
  | .sweepRetake => Sys2Proof.Machine.execSweepRetake s
  | .imageLoadDone => Sys2Proof.Machine.execImageLoadDone s
  | .preloadReloadDone => Sys2Proof.Machine.execPreloadReloadDone s
  | .powerOn board => Sys2Proof.Machine.execPowerOn board s
  | .resetAssert => Sys2Proof.Machine.execResetAssert s
  | .resetRelease => Sys2Proof.Machine.execResetRelease s
  | .batchOpen => Sys2Proof.Machine.execBatchOpen s
  | .batchLoad => Sys2Proof.Machine.execBatchLoad s
  | .batchCommit => Sys2Proof.Machine.execBatchCommit s
  | .batchDiscard => Sys2Proof.Machine.execBatchDiscard s
  | .freezeGroup => Sys2Proof.Machine.execFreezeGroup s
  | .thawGroup => Sys2Proof.Machine.execThawGroup s
  | .freezeAll => Sys2Proof.Machine.execFreezeAll s
  | .freezeRange => Sys2Proof.Machine.execFreezeRange s
  | .domainSweep => Sys2Proof.Machine.execDomainSweep s
  | .scrub => Sys2Proof.Machine.execScrub s
  | .sweepSuspend => Sys2Proof.Machine.execSweepSuspend s
  | .sweepResume => Sys2Proof.Machine.execSweepResume s
  | .sweepCancel => Sys2Proof.Machine.execSweepCancel s
  | .forceDrain => Sys2Proof.Machine.execForceDrain s
  | .domainSet => Sys2Proof.Machine.execDomainSet s
  | .requesterSet => Sys2Proof.Machine.execRequesterSet s
  | .requesterReset => Sys2Proof.Machine.execRequesterReset s
  | .clearErrors => Sys2Proof.Machine.execClearErrors s
  | .tableReset => Sys2Proof.Machine.execTableReset s
  | .fullReset => Sys2Proof.Machine.execFullReset s
  | .readEntry => Sys2Proof.Machine.execReadEntry s
  | .readClaim => Sys2Proof.Machine.execReadClaim s
  | .readPending => Sys2Proof.Machine.execReadPending s
  | .readDrain => Sys2Proof.Machine.execReadDrain s
  | .readRequester => Sys2Proof.Machine.execReadRequester s
  | .readSweepResult => Sys2Proof.Machine.execReadSweepResult s
  | .readCommitResult => Sys2Proof.Machine.execReadCommitResult s
  | .undefinedCommandCode code => Sys2Proof.Machine.execUndefinedCommandCode code s
  | .eventRegisterRead bus => Sys2Proof.Machine.execEventRegisterRead bus s
  | .alertAssertedClear value => Sys2Proof.Machine.execAlertAssertedClear value s
  | .overrideClear value => Sys2Proof.Machine.execOverrideClear value s
  | .overrideSet value => Sys2Proof.Machine.execOverrideSet value s
  | .singleByteSettingWrite value => Sys2Proof.Machine.execSingleByteSettingWrite value s
  | .settingLowerByteWrite value => Sys2Proof.Machine.execSettingLowerByteWrite value s
  | .settingHigherByteWrite value => Sys2Proof.Machine.execSettingHigherByteWrite value s
  | .multiByteCaptureRead bus => Sys2Proof.Machine.execMultiByteCaptureRead bus s
  | .pointerSet bus value => Sys2Proof.Machine.execPointerSet bus value s
  | .registerWrite bus value => Sys2Proof.Machine.execRegisterWrite bus value s
  | .storageDamage entry stored => Sys2Proof.Machine.execStorageDamage entry stored s
  | .transactionEnd iface => Sys2Proof.Machine.execTransactionEnd iface s

end Sys2Proof.Machine
end

