-- ==== Sys2Proof/Machine/Step.lean ====
section
/-! DEFINITION. One step: the command at the front of the queue; with an empty queue, time (log 1, log 2). -/

namespace Sys2Proof.Machine

/-- Nothing waits: a deadline that is due expires, one of those due (its choice uses up a free value); with none due, a ns
passes (log 2). -/
def State.idle (s : State) : Host.Outcome State Fault Refusal :=
  match s.dueEvent with
  | some c => exec c { s with free := s.free + 1 }
  | none => .next s.tick

/-- The command at the front of the queue runs on the state with the queue's rest. -/
def step (s : State) : Host.Outcome State Fault Refusal :=
  match s.pending with
  | c :: rest => exec c { s with pending := rest }
  | [] => s.idle

/-- The command the word spells, put at the front of the queue. No row of the table gives bits, so no word spells one. -/
def State.withFetchWord (s : State) (nbits w : Nat) : State :=
  match decodeTableWord nbits w with
  | some c => { s with pending := c :: s.pending }
  | none => s

end Sys2Proof.Machine
end

