-- ==== Sys2Proof/Safety.lean ====
section
/-! DEFINITION. What the statements speak of: when a step completes, the conditions under which a command has its own
effect, and the invariants of the model. -/

namespace Sys2Proof.Machine

/-- The outcome is a next state: neither a fault nor a refusal. -/
def Completes (o : Host.Outcome State Fault Refusal) : Prop := ∃ t, o = .next t

/-! ### Conditions on the state and the operands -/

/-- The entries are in canonical form. -/
abbrev Canonical (s : State) : Prop := Table.wf s.store.entries = true

/-- The port takes a request, and the part is not starting (03 R41, R47). -/
abbrev PortOpen (s : State) : Prop := s.port = .ready ∧ s.loader.phase = .running

/-- Step 2 passes: ENABLED with no clearing in progress (03 R49). -/
abbrev Admitted (r : ReqId) (s : State) : Prop := (s.requester r).standing = .enabled ∧ (s.requester r).clearing = none

/-- The address lies in the window (01 R3). -/
abbrev InWindow (a : Address) (s : State) : Prop :=
  s.store.base.toNat ≤ a.toNat ∧ a.toNat < s.store.base.toNat + 4096 * pageBytes s.store.pageSize

/-- The entry that governs the address (01 R3). -/
abbrev Governs (i : EntryIx) (a : Address) (s : State) : Prop :=
  i.val = (a.toNat - s.store.base.toNat) / pageBytes s.store.pageSize

/-- No READY slot holds the request (03 R52). -/
abbrev NoStoredAnswer (q : Request) (s : State) : Prop :=
  ∀ k : SlotIx, slotRequest s.queue[k] = some q → isReady s.queue[k] = false

/-- The request reaches step 6 of the evaluation, the reading of entry `i` (03 R48 to R54). -/
abbrev ReachesEntry (q : Request) (i : EntryIx) (s : State) : Prop :=
  PortOpen s ∧ Admitted q.requester s ∧ InWindow q.address s ∧ Governs i q.address s ∧ NoStoredAnswer q s
    ∧ s.store.lockMark ≠ some (groupOf i)

/-- The RESOLVE of a request. -/
abbrev resolveOf (q : Request) : Instr := .resolve q.requester q.address q.dir q.claim

/-- The next written byte goes to the command register, and the part is not starting (11 R181). -/
abbrev Commanded (s : State) : Prop := s.writesAt 0x5C#7 = true ∧ s.loader.phase = .running

/-- No batch is LOADING or LOADED, so that a command aborts none (06 R107). -/
abbrev NoOpenBatch (s : State) : Prop := openBatch s.batch.staging = false

/-- A command has been dispatched with this end: status and reason written, the byte taken (11 R181). -/
abbrev State.ended (s : State) (e : CommandEnd) : State := (s.setStatus e).byteTaken

/-- The walk in progress. -/
abbrev Walking (w : Walk) (s : State) : Prop := s.sweep.walk = some w

/-- The commands that abort an open batch (06 R107): every one but BATCH_LOAD, BATCH_COMMIT, BATCH_DISCARD, the READ_
queries and FULL_RESET. -/
def interruptingCommands : List Instr :=
  [.batchOpen, .freezeGroup, .thawGroup, .freezeAll, .freezeRange, .domainSweep, .scrub, .sweepSuspend, .sweepResume,
    .sweepCancel, .forceDrain, .domainSet, .requesterSet, .requesterReset, .clearErrors, .tableReset]

/-- The batch commands that leave an open batch to their own rules (06 R107). -/
def batchCommands : List Instr := [.batchLoad, .batchCommit, .batchDiscard]

/-- The READ_ queries (11 R181). -/
def queryCommands : List Instr :=
  [.readEntry, .readClaim, .readPending, .readDrain, .readRequester, .readSweepResult, .readCommitResult]

/-- The command table (11 R181): each code with its command. -/
def commandTable : List (Byte × Instr) :=
  [(0x01#8, .batchOpen), (0x02#8, .batchLoad), (0x03#8, .batchCommit), (0x04#8, .batchDiscard),
    (0x10#8, .freezeGroup), (0x11#8, .thawGroup), (0x12#8, .freezeAll), (0x13#8, .freezeRange),
    (0x20#8, .domainSweep), (0x21#8, .scrub), (0x22#8, .sweepSuspend), (0x23#8, .sweepResume), (0x24#8, .sweepCancel),
    (0x30#8, .forceDrain), (0x40#8, .domainSet), (0x41#8, .requesterSet), (0x42#8, .requesterReset),
    (0x50#8, .clearErrors), (0x60#8, .tableReset), (0x61#8, .fullReset), (0x70#8, .readEntry), (0x71#8, .readClaim),
    (0x72#8, .readPending), (0x73#8, .readDrain), (0x74#8, .readRequester), (0x75#8, .readSweepResult),
    (0x76#8, .readCommitResult)]

/-! ### Invariants -/

/-- At most one group is locked, exactly while the buffer is COMMITTING a batch for it (06 R110); every WAITING slot lies in
the locked group, and no two occupied slots hold the same request (05 R84). -/
def LockLaw (s : State) : Prop :=
  (∀ g, s.store.lockMark = some g ↔ ∃ n ops copies k t, s.batch.staging = .committing g n ops copies k t)
  ∧ (∀ (k : SlotIx) q i, s.queue[k] = .waiting q i → s.store.lockMark = some (groupOf i))
  ∧ (∀ (j k : SlotIx) q, slotRequest s.queue[j] = some q → slotRequest s.queue[k] = some q → j = k)

/-- Every group inside the Freeze Range is frozen, and the range is spent (08 R138). -/
def FreezeLaw (s : State) : Prop :=
  ∀ r, s.freeze.range = some r →
    s.freeze.rangeUsed = true ∧ ∀ g : Group, r.lower ≤ g → g ≤ r.upper → s.freeze.marks.getLsbD g.val = true

/-- A domain is CLOSING exactly while a domain sweep of it is not IDLE (09 R151). -/
def ClosingLaw (s : State) : Prop :=
  ∀ d : Domain, (s.domainRecord d).closing = true ↔ ∃ w, s.sweep.walk = some w ∧ w.kind = .domainSweep d

/-- The engine takes no step and waits for none while a commit runs; a scrub never waits for a drain item; a walk in
progress has its Sweep Result IN_PROGRESS at the engine's cursor (09 R149, R156, R162). -/
def WalkLaw (s : State) : Prop :=
  (∀ w, s.sweep.walk = some w →
    (committing s.batch.staging = true → w.state = .suspended)
    ∧ (w.kind = .scrub → w.state ≠ .waitingDrain)
    ∧ ∃ r, s.sweep.result = some r ∧ r.ending = .inProgress ∧ r.cursor = w.cursor.val)
  ∧ (s.sweep.walk = none → ∀ r, s.sweep.result = some r → r.ending ≠ .inProgress)

/-- Every deadline that stands lies at or after the present time (the model's time, log 2). -/
def DeadlineLaw (s : State) : Prop :=
  (∀ r d, (s.requester r).deadline = some d → s.now ≤ d)
  ∧ (∀ (k : SlotIx) d, slotDeadline s.queue[k] = some d → s.now ≤ d)
  ∧ (∀ x ∈ s.drain, ∀ d, x.deadline = some d → s.now ≤ d)
  ∧ s.drain.length ≤ 16

/-- Every op lies in the group, and no two name the same entry (06 R101). -/
def opsOf (g : Group) (ops : List BatchOp) : Prop :=
  (∀ op ∈ ops, groupOf (opEntry op) = g) ∧ (ops.map opEntry).Nodup

def tallySum (t : Tally) : Nat := t.installed + t.amended + t.vacated + t.draining + t.passed

/-- The Staging Buffer's laws (06 R101), and the counts of a commit add up (06 R117, R121). -/
def StagingLaw (s : State) : Prop :=
  (match s.batch.staging with
    | .idle => True
    | .loading g n ops => ops.length < n ∧ n ≤ 32 ∧ opsOf g ops
    | .loaded g n ops => ops.length = n ∧ 0 < n ∧ n ≤ 32 ∧ opsOf g ops
    | .committing g n ops copies k t =>
      ops.length = n ∧ 0 < n ∧ n ≤ 32 ∧ opsOf g ops ∧ copies.length ≤ n ∧ k ≤ n ∧ (k ≠ 0 → copies.length = n)
        ∧ tallySum t = k)
  ∧ ∀ g n t, s.batch.result = .ok g n t → tallySum t = n

/-- Every tag a READY slot carries names an ACTIVE record of the slot's requester on the slot's page, no two slots carry one
tag (04 R70), and a requester under clearing has no slot (02 R37). -/
def CarriedLaw (s : State) : Prop :=
  (∀ (k : SlotIx) q i a d t, s.queue[k] = .ready q i a d → a.tag = some t →
    ∃ c, s.claims[t] = .active c ∧ c.requester = q.requester ∧ c.entry = i)
  ∧ (∀ (j k : SlotIx) t, slotTag s.queue[j] = some t → slotTag s.queue[k] = some t → j = k)
  ∧ (∀ (k : SlotIx) q, slotRequest s.queue[k] = some q → (s.requester q.requester).clearing = none)

/-- The ACTIVE records naming the entry. -/
def activeOn (i : EntryIx) (c : ClaimRecord) : Bool :=
  match c with
  | .active x => x.entry == i
  | _ => false

/-- Every entry's claim count equals the number of ACTIVE records that name it (04 R67), over a canonical table. -/
def CountLaw (s : State) : Prop :=
  Canonical s ∧ ∀ i : EntryIx, (s.entry i).claimCount.val = (List.finRange 64).countP (fun t => activeOn i s.claims[t])

/-- No record in use names a DISABLED requester (04 R67). In LOADING no record is in use; while the part is starting no batch
stands; in RELOADING the loader is at the Preload section (12 R187 to R189). -/
def DisabledLaw (s : State) : Prop :=
  (∀ (t : Tag) c, claimOf s.claims[t] = some c → (s.requester c.requester).standing ≠ .disabled)
  ∧ (s.loader.phase = .loading → ∀ t : Tag, s.claims[t] = .free)
  ∧ (s.loader.phase ≠ .running → s.batch.staging = .idle)
  ∧ (s.loader.phase = .reloading → ∃ w l k, s.loader.work = .preload w l k)

/-- What a commit has validated and not yet applied stands: no copy is REVOKING, and each entry is as its copy says or has
been poisoned since (06 R112, R117). -/
def CopiesLaw (s : State) : Prop :=
  ∀ g n ops copies k t, s.batch.staging = .committing g n ops copies k t →
    ∀ (j : Nat) (op : BatchOp) (c : ValidatedCopy), k ≤ j → ops[j]? = some op → copies[j]? = some c →
      isRevoking c.contents = false
      ∧ ((s.entry (opEntry op)).contents = c.contents ∨ (s.entry (opEntry op)).contents = .poisoned)

/-- The Drain List's laws (07 R125, R126): an entry is REVOKING exactly while an item names it, no two items name one entry,
and there are at most 16 items. They rest on a canonical table, on what a commit has validated, and on a part that is starting
having no batch, no walk and no item (12 R187, R188). -/
def DrainLaw (s : State) : Prop :=
  Canonical s ∧ CopiesLaw s
  ∧ (∀ i : EntryIx, isRevoking (s.entry i).contents = true ↔ ∃ d ∈ s.drain, d.entry = i)
  ∧ (s.drain.map (·.entry)).Nodup ∧ s.drain.length ≤ 16
  ∧ (s.loader.phase ≠ .running → s.batch.staging = .idle ∧ s.sweep.walk = none ∧ s.drain = [])

/-- The command at the front of the queue is storage damage. -/
def DamageNext (s : State) : Prop := ∃ i e rest, s.pending = .storageDamage i e :: rest

end Sys2Proof.Machine
end

