-- ==== Sys2Proof/Certificates/Slice0/Obligations.lean ====
section
/-! DEFINITION. The statements for the provers. -/

open Sys2Proof Sys2Proof.Machine

/-! ### The queue and the step -/

/-- A step runs the command at the front of the queue on the state with the queue's rest. -/
def Obligations.StepRunsFrontCommand : Prop :=
  ∀ (c : Instr) (rest : List Instr) (s : State), s.pending = c :: rest → step s = exec c { s with pending := rest }

/-- On an empty queue (the model's time, log 2): with no deadline due a ns passes, in which the loader may take a piece of its
work (log 5) and nothing else changes; with one due that one expires, with several due one of them, no rule saying which. The
expiries due are those of the quarantine, discard and drain deadlines at or before the present time. -/
def Obligations.StepOnEmptyQueue : Prop :=
  ∀ s : State,
    (s.pending = [] →
      (s.dueExpiries = [] → step s = .next s.tick)
      ∧ (∀ c, s.dueExpiries = [c] → step s = exec c { s with free := s.free + 1 })
      ∧ (s.dueExpiries ≠ [] → ∃ c ∈ s.dueExpiries, step s = exec c { s with free := s.free + 1 }))
    ∧ (∀ c, c ∈ s.dueExpiries ↔
      (∃ r d, c = .quarantineDeadlineExpiry r ∧ (s.requester r).deadline = some d ∧ d ≤ s.now)
      ∨ (∃ k q i a d, c = .discardDeadlineExpiry k ∧ s.queue[k] = .ready q i a d ∧ d ≤ s.now)
      ∨ (∃ (p : Fin 16) (i : EntryIx) (d : Time), c = .drainExpiry p ∧ s.drain[p.val]? = some ⟨i, some d⟩ ∧ d ≤ s.now))
    ∧ (s.loader.phase = .running ∨ s.resetLow = true → s.tick = { s with now := s.now + 1 })
    ∧ s.tick = { s.loadTick with now := s.now + 1 }
    ∧ s.tick = { s with
      now := s.now + 1, free := s.tick.free, store := s.tick.store, freeze := s.tick.freeze, settings := s.tick.settings
      requesters := s.tick.requesters, errors := s.tick.errors, loader := s.tick.loader }

/-- Every command completes in every state: the part stops for nothing. No command touches the queue of commands or the
model's time, nor, but for POWER_ON, the board. (A row whose event the state does not give rise to changes nothing, log 1.) -/
def Obligations.EveryCommandCompletes : Prop :=
  ∀ (c : Instr) (s : State), ∃ t, exec c s = .next t ∧ t.pending = s.pending ∧ t.now = s.now
    ∧ ((∀ b, c ≠ .powerOn b) → t.board = s.board)

/-- The state right after power-on has the values the spec gives the start of a full reset; the load begins with its first
pass. -/
def Obligations.ResetValues : Prop :=
  (∀ i, State.reset.entry i = ⟨.vacant, 0, 0#16, false⟩)
  ∧ State.reset.store.pageSize = .k4 ∧ State.reset.store.base = 0#40 ∧ State.reset.store.lockMark = none
  ∧ (∀ r, State.reset.requester r = ⟨.disabled, 0, 0, 0, none, none⟩)
  ∧ (∀ r : ReqId, State.reset.requesters.defaults[r] = ⟨false, 0, 0⟩)
  ∧ (∀ d, State.reset.domainRecord d = ⟨false, false⟩)
  ∧ (∀ t : Tag, State.reset.claims[t] = .free) ∧ (∀ k : SlotIx, State.reset.queue[k] = .empty)
  ∧ State.reset.batch = ⟨.idle, none, .none⟩ ∧ State.reset.drain = [] ∧ State.reset.freeze = ⟨0#128, none, false⟩
  ∧ State.reset.sweep = ⟨none, none⟩ ∧ State.reset.errors = ⟨none, 0#9, 0#5, true, false⟩
  ∧ State.reset.port = .ready ∧ State.reset.loader.phase = .loading
  ∧ State.reset.loader.work = .check
  ∧ State.reset.loader.flags = ⟨false, false, false, false, false, false⟩
  ∧ State.reset.settings.snoop = .snooped ∧ State.reset.settings.discardTime = .us256
  ∧ State.reset.settings.drainTime = .ms16 ∧ State.reset.settings.quarantineTime = .ms100
  ∧ State.reset.settings.threshold = 8#4 ∧ State.reset.settings.masks = 0#7 ∧ State.reset.settings.routeInt = 0#9
  ∧ State.reset.settings.routeAlert = 0#9 ∧ State.reset.settings.enables = 0#5
  ∧ State.reset.mgmt.pointer = 0#7 ∧ State.reset.mgmt.status = .none ∧ State.reset.mgmt.reason = none
  ∧ (∀ k : Fin 12, State.reset.mgmt.operands[k] = 0#8) ∧ (∀ k : Fin 32, State.reset.mgmt.results[k] = 0#8)

/-! ### Resolve Port: RESOLVE -/

/-- A RESOLVE that passes the domain and access tests is GRANTED, translated, with the entry's snoop and generation. With
the claim flag the lowest FREE tag becomes ACTIVE and the entry's claim count rises by 1. -/
def Obligations.ResolveGranted : Prop :=
  ∀ (q : Request) (i : EntryIx) (p : Placement) (s : State), ReachesEntry q i s → s.readFails i = false →
    (s.entry i).contents = .live p → inSet (s.requester q.requester).domain p.domains = true →
    ¬ (q.dir = .write ∧ p.access = .readOnly) →
    let translated : Address := BitVec.ofNat 40 (p.frame.toNat * pageBytes s.store.pageSize
      + (q.address.toNat - s.store.base.toNat) % pageBytes s.store.pageSize)
    let granted (tag : Option Tag) : Response :=
      ⟨.granted, some (p.snoop, translated), some (s.entry i).generation, tag, some i⟩
    (q.claim = false → exec (resolveOf q) s = .next { s with port := .answered (granted none) })
    ∧ (∀ (t : Tag) (n : Fin 65), q.claim = true → s.holding q.requester < (s.requester q.requester).limit.val →
        s.claims[t] = .free → (∀ u : Tag, u < t → s.claims[u] ≠ .free) → n.val = (s.entry i).claimCount.val + 1 →
        exec (resolveOf q) s = .next { s with
          port := .answered (granted (some t))
          claims := s.claims.set t (.active ⟨q.requester, i, (s.entry i).generation, q.dir⟩)
          store := { s.store with entries := Table.put s.store.entries i.val { s.entry i with claimCount := n } } })

/-- Steps 2 and 3: a requester under clearing or DISABLED is denied REQ_DISABLED, a QUARANTINED one QUARANTINED; an address
outside the window is answered PASSED with the request address and the default snoop. Nothing else changes. -/
def Obligations.ResolveBeforeTheTable : Prop :=
  ∀ (q : Request) (s : State), PortOpen s →
    let denied (r : DenyReason) : State := { s with port := .answered ⟨.denied r, none, none, none, none⟩ }
    ((s.requester q.requester).clearing ≠ none → exec (resolveOf q) s = .next (denied .reqDisabled))
    ∧ ((s.requester q.requester).clearing = none → (s.requester q.requester).standing = .disabled →
      exec (resolveOf q) s = .next (denied .reqDisabled))
    ∧ ((s.requester q.requester).clearing = none → (s.requester q.requester).standing = .quarantined →
      exec (resolveOf q) s = .next (denied .quarantined))
    ∧ (Admitted q.requester s → ¬ InWindow q.address s →
      exec (resolveOf q) s =
        .next { s with port := .answered ⟨.passed, some (s.settings.snoop, q.address), none, none, none⟩ })

/-- Steps 7 to 9 deny in the order domain, access, claim limit; each denial is a requester fault of the same name, incurred
as the response is delivered. A full register is RETRY(CLAIM_FULL), no fault. -/
def Obligations.ResolveDenied : Prop :=
  ∀ (q : Request) (i : EntryIx) (p : Placement) (s : State), ReachesEntry q i s → s.readFails i = false →
    (s.entry i).contents = .live p →
    let answer (v : Verdict) : State := { s with port := .answered ⟨v, none, some (s.entry i).generation, none, some i⟩ }
    let inside := inSet (s.requester q.requester).domain p.domains = true
    let allowed := ¬ (q.dir = .write ∧ p.access = .readOnly)
    let full := s.holding q.requester ≥ (s.requester q.requester).limit.val
    (¬ inside → exec (resolveOf q) s = .next (State.fault q.requester .domain (answer (.denied .domain))))
    ∧ (inside → ¬ allowed → exec (resolveOf q) s = .next (State.fault q.requester .access (answer (.denied .access))))
    ∧ (inside → allowed → q.claim = true → full →
        exec (resolveOf q) s = .next (State.fault q.requester .claimLimit (answer (.denied .claimLimit))))
    ∧ (inside → allowed → q.claim = true → ¬ full → (∀ t : Tag, s.claims[t] ≠ .free) →
        exec (resolveOf q) s = .next (answer (.retry .claimFull)))

/-- Step 6 on an entry that is not LIVE, or that fails its check. -/
def Obligations.ResolveReadsEntry : Prop :=
  ∀ (q : Request) (i : EntryIx) (s : State), ReachesEntry q i s →
    let answer (v : Verdict) (g : Generation) (u : State) : State :=
      { u with port := .answered ⟨v, none, some g, none, some i⟩ }
    let g := (s.entry i).generation
    let pass := (s.domainRecord (s.requester q.requester).domain).pass
    (s.readFails i = true →
      let u := s.poison .resolve i
      exec (resolveOf q) s = .next (settle s (answer .faultedParity (u.entry i).generation u)))
    ∧ ((s.entry i).contents = .poisoned → exec (resolveOf q) s = .next (answer .faultedPoisoned g s))
    ∧ (∀ p, s.readFails i = false → (s.entry i).contents = .revoking p →
        exec (resolveOf q) s = .next (answer (.denied .revoking) g s))
    ∧ (s.readFails i = false → (s.entry i).contents = .vacant → pass = true →
        exec (resolveOf q) s = .next { s with
          port := .answered ⟨.passed, some (s.settings.snoop, q.address), some g, none, some i⟩ })
    ∧ (s.readFails i = false → (s.entry i).contents = .vacant → pass = false →
        exec (resolveOf q) s = .next (State.fault q.requester .vacant (answer (.denied .vacant) g s)))

/-- Step 4: the stored answer of the READY slot that holds the request is delivered as stored, and the slot becomes EMPTY; a
stored denial of a fault kind is a fault now. -/
def Obligations.ResolveStoredAnswer : Prop :=
  ∀ (q : Request) (k : SlotIx) (i : EntryIx) (a : Response) (d : Time) (s : State), PortOpen s →
    Admitted q.requester s → InWindow q.address s → s.queue[k] = .ready q i a d →
    (∀ j : SlotIx, j < k → isReady s.queue[j] = true → slotRequest s.queue[j] ≠ some q) →
    let u : State := { s with queue := s.queue.set k .empty, port := .answered a }
    (faultOf a.verdict = none → exec (resolveOf q) s = .next u)
    ∧ (∀ f, faultOf a.verdict = some f → exec (resolveOf q) s = .next (State.fault q.requester f u))

/-- Step 5: for a locked group the entry is not read, and the queue answers PENDING, QUEUED or QUEUE_FULL. -/
def Obligations.ResolveLockedGroup : Prop :=
  ∀ (q : Request) (i : EntryIx) (s : State), PortOpen s → Admitted q.requester s → InWindow q.address s →
    Governs i q.address s → NoStoredAnswer q s → s.store.lockMark = some (groupOf i) →
    let answer (r : RetryReason) (u : State) : State := { u with port := .answered ⟨.retry r, none, none, none, some i⟩ }
    let waits := ∃ k : SlotIx, isWaiting s.queue[k] = true ∧ slotRequest s.queue[k] = some q
    (waits → exec (resolveOf q) s = .next (answer .pending s))
    ∧ (∀ k : SlotIx, ¬ waits → s.queue[k] = .empty → (∀ j : SlotIx, j < k → s.queue[j] ≠ .empty) →
        exec (resolveOf q) s = .next (answer .queued { s with queue := s.queue.set k (.waiting q i) }))
    ∧ (¬ waits → (∀ k : SlotIx, s.queue[k] ≠ .empty) → exec (resolveOf q) s = .next (answer .queueFull s))

/-! ### Resolve Port: RELEASE, SLOT_RESET, the rest -/

/-- Freeing a record: a FREE one stays; an ORPHANED one changes no count; an ACTIVE one lowers its entry's count by 1, and a
REVOKING entry whose count so reaches 0 becomes VACANT at once, its item removed and DRAIN_DONE raised. (REVOKING is the
state as stored, an item naming the entry or not, which differ only after storage damage: the model's choice, log 25.) -/
def Obligations.FreeingAClaim : Prop :=
  ∀ (t : Tag) (s : State),
    (s.claims[t] = .free → s.freeClaim t = s)
    ∧ (∀ c, s.claims[t] = .orphaned c → s.freeClaim t = { s with claims := s.claims.set t .free })
    ∧ (∀ (c : Claim) (n : Fin 65), s.claims[t] = .active c → n.val + 1 = (s.entry c.entry).claimCount.val →
        ¬ (isRevoking (s.entry c.entry).contents = true ∧ n = 0) →
        s.freeClaim t = { s with
          claims := s.claims.set t .free
          store := { s.store with
            entries := Table.put s.store.entries c.entry.val { s.entry c.entry with claimCount := n } } })
    ∧ (∀ c, s.claims[t] = .active c → (s.entry c.entry).claimCount = 1 →
        isRevoking (s.entry c.entry).contents = true →
        s.freeClaim t = { s with
          claims := s.claims.set t .free
          store := { s.store with
            entries := Table.put s.store.entries c.entry.val
              ⟨.vacant, 0, (s.entry c.entry).generation + 1#16, false⟩ }
          drain := s.drain.filter (fun d => d.entry != c.entry)
          errors := { s.errors with events := s.errors.events ||| 0b00100#5 } })

/-- A RELEASE of an own ACTIVE tag frees the record, empties the slot that carries the tag if one does, and is answered
RELEASED with the entry and the generation at claim. -/
def Obligations.ReleaseOfActive : Prop :=
  ∀ (t : Tag) (c : Claim) (s : State), PortOpen s → s.claims[t] = .active c →
    let answer (u : State) : State :=
      { u with port := .answered ⟨.released, none, some c.generation, some t, some c.entry⟩ }
    ((∀ k : SlotIx, slotTag s.queue[k] ≠ some t) →
      exec (.release c.requester t) s = .next (settle s (answer (s.freeClaim t))))
    ∧ (∀ k : SlotIx, slotTag s.queue[k] = some t → (∀ j : SlotIx, j < k → slotTag s.queue[j] ≠ some t) →
        exec (.release c.requester t) s =
          .next (settle s (answer (State.freeClaim t { s with queue := s.queue.set k .empty }))))

/-- A RELEASE of an own ORPHANED tag is RELEASED_LATE and only frees the record; one of a FREE tag is UNKNOWN_TAG and one of
another requester's record FOREIGN_TAG, each a fault, the records untouched. -/
def Obligations.ReleaseOfOthers : Prop :=
  ∀ (r : ReqId) (t : Tag) (s : State), PortOpen s →
    (∀ c, s.claims[t] = .orphaned c → c.requester = r →
      exec (.release r t) s = .next { s with
        claims := s.claims.set t .free
        port := .answered ⟨.releasedLate, none, some c.generation, some t, some c.entry⟩ })
    ∧ (s.claims[t] = .free →
      exec (.release r t) s = .next (State.fault r .unknownTag
        { s with port := .answered ⟨.refusedUnknownTag, none, none, some t, none⟩ }))
    ∧ (∀ c, claimOf s.claims[t] = some c → c.requester ≠ r →
      exec (.release r t) s = .next (State.fault r .foreignTag
        { s with port := .answered ⟨.refusedForeignTag, none, none, some t, none⟩ }))

/-- The acceptance of a requester clearing: clearing present, fault count 0, no deadline; then each slot of the requester is
emptied, in ascending order, with the claim it carries. So no slot of the requester is left, the other requesters' slots
stand, each ACTIVE claim a slot of the requester carries becomes FREE and its entry's count falls by 1, and the other claims
stand; no error is recorded. SLOT_RESET accepts one that ends TO_DEFAULTS, or joins the one in progress, and the port goes to
HOLDING. -/
def Obligations.SlotResetAndClearing : Prop :=
  ∀ (r : ReqId) (s : State),
    (∀ x : Clearing,
      let u := s.acceptClearing r x
      let owns (v : State) (k : SlotIx) : Prop := (slotRequest v.queue[k]).map (·.requester) = some r
      let carried (t : Tag) : Prop := ∃ k : SlotIx, owns s k ∧ slotTag s.queue[k] = some t
      u.requesters = { s.requesters with
        live := s.requesters.live.set r { s.requester r with clearing := some x, faults := 0, deadline := none } }
      ∧ u = (List.finRange 8).foldl
          (fun v k => if (slotRequest v.queue[k]).map (·.requester) = some r then v.dropSlot k else v)
          { s with requesters := u.requesters }
      ∧ (∀ (v : State) (k : SlotIx),
          (slotTag v.queue[k] = none → v.dropSlot k = { v with queue := v.queue.set k .empty })
          ∧ (∀ t, slotTag v.queue[k] = some t → v.dropSlot k = State.freeClaim t { v with queue := v.queue.set k .empty }))
      ∧ (∀ (k : SlotIx) q, slotRequest u.queue[k] = some q → q.requester ≠ r)
      ∧ (∀ k : SlotIx, (∀ q, slotRequest s.queue[k] = some q → q.requester ≠ r) → u.queue[k] = s.queue[k])
      ∧ (∀ t : Tag, carried t → u.claims[t] = .free)
      ∧ (∀ t : Tag, ¬ carried t → u.claims[t] = s.claims[t])
      ∧ (∀ (i : EntryIx) (freed : List Tag), Canonical s → freed.Nodup →
          (∀ t, t ∈ freed ↔ carried t ∧ activeOn i s.claims[t] = true) → freed.length ≤ (s.entry i).claimCount.val →
          (u.entry i).claimCount.val + freed.length = (s.entry i).claimCount.val)
      ∧ u.errors.first = s.errors.first ∧ u.errors.next = s.errors.next ∧ u.port = s.port)
    ∧ (PortOpen s → (s.requester r).clearing = none →
      exec (.slotReset r) s = .next (settle s { s.acceptClearing r .toDefaults with port := .holding r }))
    ∧ (PortOpen s → (s.requester r).clearing ≠ none →
      exec (.slotReset r) s = .next { s with
        port := .holding r
        requesters := { s.requesters with
          live := s.requesters.live.set r { s.requester r with clearing := some .toDefaults } } })

/-- The request lines: kind 1, 2, 3 is RESOLVE, RELEASE, SLOT_RESET with the fields the kind uses, whatever the others hold;
another kind is a malformed request. The response lines: the codes of outcome and reason, and an absent field with its presence
line and its value lines 0. While the part is starting every well-formed request is answered RETRY(STARTING) with no other
effect. A malformed request, in every phase, is REFUSED(MALFORMED) and PORT_PROTOCOL is recorded with its raw kind. RSP_TAKEN
in ANSWERED makes the port READY, elsewhere it has no effect. A request presented while the port is not READY is not taken, and
the sender presents it again (log 12). -/
def Obligations.PortHandshake : Prop :=
  (∀ (r : BitVec 4) (access claim : BitVec 1) (tag : BitVec 6) (address : BitVec 40),
    let lines (kind : BitVec 3) : RequestLines := ⟨kind, r, access, claim, tag, address⟩
    let q : Request := ⟨r.toFin, address, if access = 0#1 then .read else .write, decide (claim = 1#1)⟩
    requestOf (lines 1#3) = resolveOf q ∧ requestOf (lines 2#3) = .release r.toFin tag.toFin
    ∧ requestOf (lines 3#3) = .slotReset r.toFin
    ∧ ∀ kind, kind ≠ 1#3 → kind ≠ 2#3 → kind ≠ 3#3 → requestOf (lines kind) = .malformedRequest kind)
  ∧ (∀ a : Response,
    let x := responseLines a
    let coded (v : Verdict) (outcome : BitVec 4) (reason : BitVec 5) : Prop :=
      a.verdict = v → x.outcome = outcome ∧ x.reason = reason
    (coded .granted 0#4 0#5 ∧ coded .passed 1#4 0#5 ∧ coded (.denied .reqDisabled) 2#4 1#5
      ∧ coded (.denied .quarantined) 2#4 2#5 ∧ coded (.denied .vacant) 2#4 3#5 ∧ coded (.denied .revoking) 2#4 4#5
      ∧ coded (.denied .domain) 2#4 5#5 ∧ coded (.denied .access) 2#4 6#5 ∧ coded (.denied .claimLimit) 2#4 7#5
      ∧ coded (.retry .starting) 3#4 8#5 ∧ coded (.retry .queued) 3#4 9#5 ∧ coded (.retry .pending) 3#4 10#5
      ∧ coded (.retry .queueFull) 3#4 11#5 ∧ coded (.retry .claimFull) 3#4 12#5 ∧ coded .faultedParity 4#4 13#5
      ∧ coded .faultedPoisoned 4#4 14#5 ∧ coded .released 5#4 0#5 ∧ coded .releasedLate 6#4 0#5
      ∧ coded .refusedUnknownTag 7#4 15#5 ∧ coded .refusedForeignTag 7#4 16#5 ∧ coded .refusedMalformed 7#4 17#5
      ∧ coded .acked 8#4 0#5)
    ∧ (a.place = none → x.addressPresent = 0#1 ∧ x.address = 0#40 ∧ x.snoop = 0#1)
    ∧ (∀ y b, a.place = some (y, b) →
        x.addressPresent = 1#1 ∧ x.address = b ∧ x.snoop = if y = .direct then 1#1 else 0#1)
    ∧ (a.generation = none → x.generationPresent = 0#1 ∧ x.generation = 0#16)
    ∧ (∀ g, a.generation = some g → x.generationPresent = 1#1 ∧ x.generation = g)
    ∧ (a.tag = none → x.tagPresent = 0#1 ∧ x.tag = 0#6)
    ∧ (∀ t, a.tag = some t → x.tagPresent = 1#1 ∧ x.tag.toNat = t.val)
    ∧ (a.entry = none → x.entryPresent = 0#1 ∧ x.entry = 0#12)
    ∧ (∀ i, a.entry = some i → x.entryPresent = 1#1 ∧ x.entry.toNat = i.val))
  ∧ ∀ s : State,
    (s.port = .ready → s.loader.phase ≠ .running → ∀ q t,
      let u : State := { s with port := .answered ⟨.retry .starting, none, none, none, none⟩ }
      exec (resolveOf q) s = .next u ∧ exec (.release q.requester t) s = .next u
        ∧ exec (.slotReset q.requester) s = .next u)
    ∧ (∀ kind : BitVec 3, s.port = .ready → kind ≠ 1#3 → kind ≠ 2#3 → kind ≠ 3#3 →
      exec (.malformedRequest kind) s = .next { s with
        port := .answered ⟨.refusedMalformed, none, none, none, none⟩
        errors := recordError s.settings (.portProtocol kind) s.errors })
    ∧ (∀ a, s.port = .answered a → exec .rspTaken s = .next { s with port := .ready })
    ∧ ((∀ a, s.port ≠ .answered a) → exec .rspTaken s = .next s)
    ∧ (s.port ≠ .ready → ∀ q t kind, exec (resolveOf q) s = .next s ∧ exec (.release q.requester t) s = .next s
        ∧ exec (.slotReset q.requester) s = .next s ∧ exec (.malformedRequest kind) s = .next s)

/-! ### Requesters and timers -/

/-- A requester fault is recorded; it is counted unless the requester is DISABLED, under clearing, or the kind is masked; a
counted fault that reaches a non-zero threshold quarantines (or renews), and QUARANTINE is recorded after it. -/
def Obligations.FaultCounting : Prop :=
  ∀ (r : ReqId) (k : FaultKind) (s : State),
    let recorded : State := { s with errors := recordError s.settings (.requesterFault r k) s.errors }
    let q := s.requester r
    let n := min 15 (q.faults.val + 1)
    let with' (x : Requester) (u : State) : State :=
      { u with requesters := { u.requesters with live := u.requesters.live.set r x } }
    let uncounted := q.standing = .disabled ∨ q.clearing ≠ none ∨ s.settings.masks.getLsbD (faultCode k - 1) = true
    (uncounted → s.fault r k = recorded)
    ∧ (∀ m : Fin 16, ¬ uncounted → m.val = n → s.settings.threshold = 0#4 ∨ n < s.settings.threshold.toNat →
        s.fault r k = with' { q with faults := m } recorded)
    ∧ (¬ uncounted → s.settings.threshold ≠ 0#4 → s.settings.threshold.toNat ≤ n →
        s.fault r k =
          let x : Requester := { q with
            standing := .quarantined, faults := 0
            deadline := some (s.now + quarantineNs s.settings.quarantineTime) }
          let u := with' x recorded
          { u with errors := recordError u.settings (.quarantine r) u.errors })

/-- The clearing's work frees the lowest-numbered record naming the requester; with none left the clearing completes: the
record is replaced by its ending and a SLOT_RESET held for it is answered ACKED. -/
def Obligations.ClearingWorkAndCompletion : Prop :=
  ∀ (r : ReqId) (x : Clearing) (s : State), (s.requester r).clearing = some x →
    (∀ t : Tag, namesRequester r s.claims[t] = true → (∀ u : Tag, u < t → namesRequester r s.claims[u] = false) →
      exec (.requesterClearingFree r) s = .next (settle s (s.freeClaim t)))
    ∧ ((∀ t : Tag, namesRequester r s.claims[t] = false) →
      let d := s.requesters.defaults[r]
      let ended : Requester := match x with
        | .toDefaults => ⟨if d.enabled then .enabled else .disabled, d.domain, d.limit, 0, none, none⟩
        | .toDisabled domain limit => ⟨.disabled, domain, limit, 0, none, none⟩
      exec (.requesterClearingCompletion r) s = .next { s with
        requesters := { s.requesters with live := s.requesters.live.set r ended }
        port := if s.port = .holding r then .answered ⟨.acked, none, none, none, none⟩ else s.port })

/-- A quarantine deadline that has come (on the model's time, log 2) makes the requester ENABLED, its fault count kept, and
raises QUARANTINE_END. -/
def Obligations.QuarantineEnds : Prop :=
  ∀ (r : ReqId) (d : Time) (s : State), (s.requester r).deadline = some d → d ≤ s.now →
    exec (.quarantineDeadlineExpiry r) s = .next { s with
      requesters := { s.requesters with
        live := s.requesters.live.set r { s.requester r with standing := .enabled, deadline := none } }
      errors := { s.errors with events := s.errors.events ||| 0b10000#5 } }

/-- A discard deadline that has come (on the model's time, log 2) empties the slot and frees a carried claim; DISCARD is
recorded, then the DISCARD fault. -/
def Obligations.SlotDiscarded : Prop :=
  ∀ (k : SlotIx) (q : Request) (i : EntryIx) (a : Response) (d : Time) (s : State),
    s.queue[k] = .ready q i a d → d ≤ s.now →
    let emptied : State := { s with queue := s.queue.set k .empty }
    let charged (u : State) : State := State.fault q.requester .discard
      { u with errors := recordError u.settings (.discard q.requester k) u.errors }
    (a.tag = none → exec (.discardDeadlineExpiry k) s = .next (charged emptied))
    ∧ (∀ t, a.tag = some t → exec (.discardDeadlineExpiry k) s = .next (settle s (charged (emptied.freeClaim t))))

/-- The end of a drain: slots carrying claims on the entry are emptied and those claims freed, its other ACTIVE claims become
ORPHANED, an ORPHANED record stays so, a slot carrying a claim on another entry stands, the entry becomes VACANT with claim count 0 and generation raised by 1, its item is removed; nothing else changes.
A drain deadline that has come (on the model's time, log 2) ends the drain so and records DRAIN_EXPIRED with the number
orphaned; no event is raised. (An entry that damage took out of REVOKING is treated alike, log 20.) -/
def Obligations.DrainsEnd : Prop :=
  ∀ (i : EntryIx) (s : State),
    let u := s.endDrain i
    u = { s with
      claims := u.claims, queue := u.queue, drain := s.drain.filter (fun d => d.entry != i)
      store := { s.store with entries := u.store.entries } }
    ∧ (Canonical s → u.entry i = ⟨.vacant, 0, (s.entry i).generation + 1#16, false⟩)
    ∧ (∀ j, j ≠ i → u.entry j = s.entry j)
    ∧ (∀ (k : SlotIx) t, slotTag s.queue[k] = some t → namesEntry i s.claims[t] = true →
        u.queue[k] = .empty ∧ u.claims[t] = .free)
    ∧ (∀ (t : Tag) c, s.claims[t] = .active c → c.entry = i → (∀ k : SlotIx, slotTag s.queue[k] ≠ some t) →
        u.claims[t] = .orphaned c)
    ∧ (∀ t : Tag, namesEntry i s.claims[t] = false → u.claims[t] = s.claims[t])
    ∧ (∀ (t : Tag) c, s.claims[t] = .orphaned c → c.entry = i → (∀ k : SlotIx, slotTag s.queue[k] ≠ some t) →
        u.claims[t] = .orphaned c)
    ∧ (∀ k : SlotIx, slotTag s.queue[k] = none → u.queue[k] = s.queue[k])
    ∧ (∀ (k : SlotIx) t, slotTag s.queue[k] = some t → namesEntry i s.claims[t] = false → u.queue[k] = s.queue[k])
    ∧ (∀ (p : Fin 16) (d : Time), s.drain[p.val]? = some ⟨i, some d⟩ → d ≤ s.now →
        let orphaned := (List.finRange 64).countP (fun t => activeOn i s.claims[t] && (s.carrier t).isNone)
        exec (.drainExpiry p) s =
          .next (settle s { u with errors := recordError u.settings (.drainExpired i orphaned) u.errors }))

/-! ### Parity and errors -/

/-- Even parity: in VACANT (state code 0) and POISONED (3) over the state code alone, in LIVE (1) and REVOKING (2) over all 36
bits, of which the state code gives one 1. The check of a read: stored parity against the covered fields, and the three laws tested with it. A POISONED entry is not
checked. A read that fails makes the entry POISONED, its count kept and its generation raised, removes its drain item and
records PARITY with the finder; a read that passes changes nothing. -/
def Obligations.ParityCheckedRead : Prop :=
  (∀ p : Placement,
    let ones : Nat := (List.range 24).countP (fun k => p.frame.getLsbD k)
      + (if p.access = .readWrite then 1 else 0) + (if p.snoop = .direct then 1 else 0)
      + (List.range 8).countP (fun d => p.domains.getLsbD d)
    evenParity .vacant = false ∧ evenParity .poisoned = false
    ∧ evenParity (.live p) = decide ((1 + ones) % 2 = 1) ∧ evenParity (.revoking p) = decide ((1 + ones) % 2 = 1))
  ∧ ∀ (f : Finder) (i : EntryIx) (s : State),
    let e := s.entry i
    let drains := ∃ d ∈ s.drain, d.entry = i
    let broken := (∃ p, e.contents = .live p ∧ (drains ∨ p.domains = 0#8)) ∨ (∃ p, e.contents = .revoking p ∧ ¬ drains)
    (s.readFails i = true ↔ e.contents ≠ .poisoned ∧ (e.parity ≠ evenParity e.contents ∨ broken))
    ∧ (s.readFails i = false → s.readEntry f i = s)
    ∧ (s.readFails i = true →
        let u := s.readEntry f i
        u = { s with store := { s.store with entries := u.store.entries }, drain := u.drain, errors := u.errors }
        ∧ u.entry i = ⟨.poisoned, e.claimCount, e.generation + 1#16, false⟩ ∧ (∀ j, j ≠ i → u.entry j = s.entry j)
        ∧ u.drain = s.drain.filter (fun d => d.entry != i)
        ∧ u.errors = recordError s.settings (.parity i f) s.errors)

/-- Recording an error fills an empty First Error record, else sets the kind's flag; an error routed to ALERT that finds the
override CLEAR sets ALERT_ASSERTED and the override; the event flags are left. INT is low exactly while a routed error is
held, a routed kind's flag is SET, or an enabled event flag is SET; ALERT exactly while ALERT_ASSERTED is SET. -/
def Obligations.ErrorsAndLines : Prop :=
  (∀ (st : Settings) (e : ErrorRecord) (u : ErrorUnit),
    let v := recordError st e u
    let routed := st.routeAlert.getLsbD (errorCode e - 1) = true
    (u.first = none → v.first = some e ∧ v.next = u.next)
    ∧ (u.first ≠ none → v.first = u.first ∧ v.next = u.next ||| (1#9 <<< (errorCode e - 1)))
    ∧ (routed → u.override = false → v.alertAsserted = true ∧ v.override = true)
    ∧ (¬ routed ∨ u.override = true → v.alertAsserted = u.alertAsserted ∧ v.override = u.override)
    ∧ v.events = u.events)
  ∧ (∀ s : State,
    (s.intLow = true ↔
      (∃ e, s.errors.first = some e ∧ s.settings.routeInt.getLsbD (errorCode e - 1) = true)
      ∨ (∃ k : Fin 9, s.errors.next.getLsbD k.val = true ∧ s.settings.routeInt.getLsbD k.val = true)
      ∨ (∃ k : Fin 5, s.errors.events.getLsbD k.val = true ∧ s.settings.enables.getLsbD k.val = true))
    ∧ (s.alertLow = true ↔ s.errors.alertAsserted = true))

/-! ### Commits -/

/-- The tests of an INSTALL, an AMEND and a REVOKE against the entry as read, the first that fails giving the reason. -/
def Obligations.OpJudging : Prop :=
  ∀ (s : State) (needed : Nat) (i : EntryIx),
    let e := s.entry i
    let claimed := e.claimCount ≠ 0
    let closing (m : BitVec 8) := ∃ d : Domain, inSet d m = true ∧ (s.domainRecord d).closing = true
    (∀ p bad,
      let v := s.judge needed (.install i p bad)
      let placeable := e.contents = .vacant ∨ (e.contents = .poisoned ∧ ¬ claimed)
      ((∃ x, e.contents = .live x ∨ e.contents = .revoking x) → v = some .notVacant)
      ∧ (e.contents = .poisoned → claimed → v = some .claimed)
      ∧ (placeable → p.domains = 0#8 → v = some .emptySet)
      ∧ (placeable → p.domains ≠ 0#8 → closing p.domains → v = some .domainClosing)
      ∧ (placeable → p.domains ≠ 0#8 → ¬ closing p.domains → v = none))
    ∧ (∀ (a : Option Access) (x : Option Snoop) (m : Option (BitVec 8)) (bad : Bool),
      let v := s.judge needed (.amend i a x m bad)
      ((∀ p, e.contents ≠ .live p) → v = some .notLive)
      ∧ (∀ p, e.contents = .live p →
        let noFields := a = none ∧ x = none ∧ m = none
        let changesAccess := ∃ b, a = some b ∧ b ≠ p.access
        let adds := ∃ n, m = some n ∧ closing (n &&& ~~~p.domains)
        (noFields → v = some .noFields)
        ∧ (¬ noFields → changesAccess → claimed → v = some .claimed)
        ∧ (¬ noFields → ¬ (changesAccess ∧ claimed) → m = some 0#8 → v = some .emptySet)
        ∧ (¬ noFields → ¬ (changesAccess ∧ claimed) → m ≠ some 0#8 → adds → v = some .domainClosing)
        ∧ (¬ noFields → ¬ (changesAccess ∧ claimed) → m ≠ some 0#8 → ¬ adds → v = none)))
    ∧ (let v := s.judge needed (.revoke i)
      let revocable := e.contents = .poisoned ∨ ∃ p, e.contents = .live p
      let short := claimed ∧ 16 - s.drain.length < needed + 1
      (¬ revocable → v = some .notLive) ∧ (revocable → short → v = some .drainFull)
      ∧ (revocable → ¬ short → v = none))

/-- A validation reads the op's entry with COMMIT as finder and judges the op: one that passes is kept with its validated
copy; one that fails rejects the commit at this event, nothing applied. -/
def Obligations.CommitValidates : Prop :=
  ∀ (g : Group) (n k : Nat) (ops : List BatchOp) (copies : List ValidatedCopy) (tally : Tally) (op : BatchOp) (s : State),
    s.batch.staging = .committing g n ops copies k tally → ops[copies.length]? = some op →
    let i := opEntry op
    let u := s.readEntry .commit i
    let needed := (ops.zip copies).countP (fun x => drainNeeding x.1 x.2)
    (u.judge needed op = none →
      exec .commitValidation s = .next (settle s { u with
        batch := { s.batch with
          staging := .committing g n ops (copies ++ [⟨(u.entry i).contents, (u.entry i).claimCount⟩]) k tally } }))
    ∧ (∀ reason, u.judge needed op = some reason →
      exec .commitValidation s = .next (settle s (State.evaluateWaiting { u with
        store := { u.store with lockMark := none }
        batch := { s.batch with staging := .idle, result := .rejected g ops.length reason i copies.length }
        errors := raiseEvent .commitDone (recordError u.settings (.commitReject reason (some i)) u.errors) })))

/-- An application writes the op's entry whole, from the op and its validated copy, with the claim count as it stands, and
adds 1 to one count. (A REVOKE with claims appends its drain item though an item names the entry already, log 23.) -/
def Obligations.CommitApplies : Prop :=
  ∀ (g : Group) (n k : Nat) (ops : List BatchOp) (copies : List ValidatedCopy) (t : Tally) (op : BatchOp)
    (c : ValidatedCopy) (s : State),
    s.batch.staging = .committing g n ops copies k t → copies.length = ops.length → ops[k]? = some op →
    copies[k]? = some c →
    let i := opEntry op
    let e := s.entry i
    let base := if e.contents = .poisoned then .poisoned else c.contents
    let counted (t' : Tally) (u : State) : State :=
      { u with batch := { s.batch with staging := .committing g n ops copies (k + 1) t' } }
    let rewritten (x : Contents) (bad : Bool) : GrantEntry :=
      ⟨x, e.claimCount, if base = x then e.generation else e.generation + 1#16, evenParity x ^^ bad⟩
    let written (x : Contents) (bad : Bool) : State :=
      { s with store := { s.store with entries := Table.put s.store.entries i.val (rewritten x bad) } }
    (∀ p bad, op = .install i p bad →
      exec .commitApplication s = .next (counted { t with installed := t.installed + 1 } (written (.live p) bad)))
    ∧ (∀ a x m bad p, op = .amend i a x m bad → base = .live p →
      exec .commitApplication s = .next (counted { t with amended := t.amended + 1 }
        (written (.live ⟨p.frame, a.getD p.access, x.getD p.snoop, m.getD p.domains⟩) bad)))
    ∧ (∀ a x m bad, op = .amend i a x m bad → base = .poisoned →
      exec .commitApplication s = .next (counted { t with passed := t.passed + 1 } s))
    ∧ (op = .revoke i → e.claimCount = 0 →
      exec .commitApplication s = .next (counted { t with vacated := t.vacated + 1 } (written .vacant false)))
    ∧ (∀ p, op = .revoke i → e.claimCount ≠ 0 → s.drain.length < 16 →
      (base = .live p ∨ (base = .poisoned ∧ p = ⟨0#24, .readOnly, .snooped, 0#8⟩)) →
      exec .commitApplication s = .next (counted { t with draining := t.draining + 1 }
        { written (.revoking p) false with
          drain := s.drain ++ [⟨i, (drainNs s.settings.drainTime).map (fun x => s.now + x)⟩] }))

/-- After the last application the commit completes: lock cleared, buffer IDLE, Commit Result OK, COMMIT_DONE raised, and the
WAITING slots are evaluated, slot after slot in ascending order. Each is evaluated by steps 2 and 6 to 10, with no fault
incurred and nothing changed but what the entry's read and a claim taken change; it becomes READY with its result and a discard
deadline, or EMPTY on RETRY(CLAIM_FULL). None is left WAITING; other slots, the port and the requesters stand. -/
def Obligations.CommitCompletes : Prop :=
  (∀ (g : Group) (n : Nat) (ops : List BatchOp) (copies : List ValidatedCopy) (t : Tally) (s : State),
      s.batch.staging = .committing g n ops copies ops.length t → copies.length = ops.length →
      exec .commitCompletion s = .next (settle s (State.evaluateWaiting { s with
        store := { s.store with lockMark := none }
        batch := { s.batch with staging := .idle, result := .ok g ops.length t }
        errors := { s.errors with events := s.errors.events ||| 0b00001#5 } })))
  ∧ (∀ s : State,
      s.evaluateWaiting = (List.finRange 8).foldl (fun u k => u.evaluateSlot k) s
      ∧ (∀ k : SlotIx, isWaiting s.queue[k] = false → s.evaluateSlot k = s)
      ∧ (∀ (k : SlotIx) q i, s.queue[k] = .waiting q i →
        let r := s.evaluate q i
        (r.2.verdict = .retry .claimFull → s.evaluateSlot k = { r.1 with queue := s.queue.set k .empty })
        ∧ (r.2.verdict ≠ .retry .claimFull →
          s.evaluateSlot k =
            { r.1 with queue := s.queue.set k (.ready q i r.2 (s.now + discardNs s.settings.discardTime)) }))
      ∧ (let u := s.evaluateWaiting
        (∀ k : SlotIx, isWaiting u.queue[k] = false)
        ∧ (∀ k : SlotIx, isWaiting s.queue[k] = false → u.queue[k] = s.queue[k])
        ∧ u.port = s.port ∧ u.requesters = s.requesters))
  ∧ (∀ (q : Request) (i : EntryIx) (s : State),
      let g := (s.entry i).generation
      let bare' (v : Verdict) : State × Response := (s, ⟨v, none, none, none, none⟩)
      let answer (v : Verdict) : State × Response := (s, ⟨v, none, some g, none, some i⟩)
      ((s.requester q.requester).clearing ≠ none → s.evaluate q i = bare' (.denied .reqDisabled))
      ∧ ((s.requester q.requester).clearing = none → (s.requester q.requester).standing = .disabled →
        s.evaluate q i = bare' (.denied .reqDisabled))
      ∧ ((s.requester q.requester).clearing = none → (s.requester q.requester).standing = .quarantined →
        s.evaluate q i = bare' (.denied .quarantined))
      ∧ (Admitted q.requester s →
        (s.readFails i = true →
          let u := s.poison .resolve i
          s.evaluate q i = (u, ⟨.faultedParity, none, some (u.entry i).generation, none, some i⟩))
        ∧ ((s.entry i).contents = .poisoned → s.evaluate q i = answer .faultedPoisoned)
        ∧ (s.readFails i = false →
          (∀ p, (s.entry i).contents = .revoking p → s.evaluate q i = answer (.denied .revoking))
          ∧ ((s.entry i).contents = .vacant → (s.domainRecord (s.requester q.requester).domain).pass = true →
            s.evaluate q i = (s, ⟨.passed, some (s.settings.snoop, q.address), some g, none, some i⟩))
          ∧ ((s.entry i).contents = .vacant → (s.domainRecord (s.requester q.requester).domain).pass = false →
            s.evaluate q i = answer (.denied .vacant))
          ∧ (∀ p, (s.entry i).contents = .live p →
            let inside := inSet (s.requester q.requester).domain p.domains = true
            let allowed := ¬ (q.dir = .write ∧ p.access = .readOnly)
            let full := (s.requester q.requester).limit.val ≤ s.holding q.requester
            let translated : Address := BitVec.ofNat 40 (p.frame.toNat * pageBytes s.store.pageSize
              + (q.address.toNat - s.store.base.toNat) % pageBytes s.store.pageSize)
            let granted (tag : Option Tag) : Response := ⟨.granted, some (p.snoop, translated), some g, tag, some i⟩
            (¬ inside → s.evaluate q i = answer (.denied .domain))
            ∧ (inside → ¬ allowed → s.evaluate q i = answer (.denied .access))
            ∧ (inside → allowed → q.claim = false → s.evaluate q i = (s, granted none))
            ∧ (inside → allowed → q.claim = true → full → s.evaluate q i = answer (.denied .claimLimit))
            ∧ (inside → allowed → q.claim = true → ¬ full → (∀ t : Tag, s.claims[t] ≠ .free) →
              s.evaluate q i = answer (.retry .claimFull))
            ∧ (∀ (t : Tag) (n : Fin 65), inside → allowed → q.claim = true → ¬ full → s.claims[t] = .free →
              (∀ u : Tag, u < t → s.claims[u] ≠ .free) → n.val = (s.entry i).claimCount.val + 1 →
              s.evaluate q i = ({ s with
                claims := s.claims.set t (.active ⟨q.requester, i, g, q.dir⟩)
                store := { s.store with entries := Table.put s.store.entries i.val { s.entry i with claimCount := n } } },
                granted (some t)))))))

/-! ### Walks -/

/-- The end of a walk, and the moving on of its cursor: past entry 4095 the walk completes, whether or not a cancel is
requested; in SUSPENDING it is SUSPENDED, or CANCELLED when a cancel is requested. A sweep's write: the entry whole, its
generation raised when it changes, parity made anew, its claim count kept; the READY slots on the entry that carry no claim
are emptied, the others stand. A drain item added takes its deadline from the drain time standing. -/
def Obligations.WalkBookkeeping : Prop :=
  (∀ (w : Walk) (s : State),
      (∀ ending,
        let closed (u : State) : State := { u with
          sweep := ⟨none, s.sweep.result.map (fun r => { r with ending := ending })⟩
          errors := { s.errors with events := s.errors.events ||| 0b00010#5 } }
        (w.kind = .scrub → s.endWalk w ending = closed s)
        ∧ (∀ d, w.kind = .domainSweep d → s.endWalk w ending = closed { s with
          requesters := { s.requesters with
            domains := s.requesters.domains.set d { s.domainRecord d with closing := false } } }))
      ∧ (∀ next : Nat,
        let u : State := { s with
          sweep := { s.sweep with result := s.sweep.result.map (fun r => { r with cursor := next }) } }
        let at' (x : WalkState) (i : EntryIx) : State :=
          { u with sweep := { u.sweep with walk := some { w with state := x, cursor := i } } }
        (4096 ≤ next → s.advance w next = u.endWalk w .complete)
        ∧ (∀ i : EntryIx, i.val = next → w.state = .running → s.advance w next = at' .running i)
        ∧ (∀ i : EntryIx, i.val = next → w.state = .suspending false → s.advance w next = at' .suspended i)
        ∧ (next < 4096 → w.state = .suspending true → s.advance w next = u.endWalk w .cancelled)))
  ∧ (∀ (i : EntryIx) (x : Contents) (s : State),
      let e := s.entry i
      let rewritten : GrantEntry :=
        ⟨x, e.claimCount, if e.contents = x then e.generation else e.generation + 1#16, evenParity x⟩
      let u := s.sweepWrite i x
      u = { s with
        queue := u.queue
        store := { s.store with entries := Table.put s.store.entries i.val rewritten } }
      ∧ (∀ (k : SlotIx) q a d, s.queue[k] = .ready q i a d → a.tag = none → u.queue[k] = .empty)
      ∧ (∀ k : SlotIx, (∀ q a d, s.queue[k] = .ready q i a d → a.tag ≠ none) → u.queue[k] = s.queue[k])
      ∧ s.addDrain i = { s with
        drain := s.drain ++ [⟨i, (drainNs s.settings.drainTime).map (fun t => s.now + t)⟩] })

/-- A domain sweep takes one entry, as read with SWEEP as finder. -/
def Obligations.SweepTakesEntry : Prop :=
  ∀ (w : Walk) (d : Domain) (s : State),
    let i := w.cursor
    let u := s.readEntry .sweep i
    let e := u.entry i
    let rest (p : Placement) : Placement := { p with domains := p.domains &&& ~~~(1#8 <<< d.val) }
    let on (v : State) : State := v.advance w (i.val + 1)
    let counted (f : SweepCounts → SweepCounts) (v : State) : State := v.updateReport (updateCounts f)
    (e.contents = .poisoned →
      s.sweepTake w d = on (u.updateReport (fun r => { r with poisoned := r.poisoned + 1 })))
    ∧ (e.contents = .vacant → s.sweepTake w d = on u)
    ∧ (∀ p, e.contents = .live p ∨ e.contents = .revoking p → inSet d p.domains = false → s.sweepTake w d = on u)
    ∧ (∀ p, e.contents = .live p → inSet d p.domains = true → (rest p).domains ≠ 0#8 →
        s.sweepTake w d = on (counted (fun c => { c with changed := c.changed + 1 }) (u.sweepWrite i (.live (rest p)))))
    ∧ (∀ p, e.contents = .live p → inSet d p.domains = true → (rest p).domains = 0#8 → e.claimCount = 0 →
        s.sweepTake w d = on (counted (fun c => { c with changed := c.changed + 1, vacated := c.vacated + 1 })
          (u.sweepWrite i .vacant)))
    ∧ (∀ p, e.contents = .live p → inSet d p.domains = true → (rest p).domains = 0#8 → e.claimCount ≠ 0 →
        u.drain.length < 16 →
        s.sweepTake w d = on (counted (fun c => { c with changed := c.changed + 1, draining := c.draining + 1 })
          ((u.sweepWrite i (.revoking (rest p))).addDrain i)))
    ∧ (∀ p, e.contents = .live p → inSet d p.domains = true → (rest p).domains = 0#8 → e.claimCount ≠ 0 →
        16 ≤ u.drain.length →
        let engine (x : WalkState) : State := { u with sweep := { u.sweep with walk := some { w with state := x } } }
        (w.state = .running → s.sweepTake w d = engine .waitingDrain)
        ∧ (w.state = .suspending false → s.sweepTake w d = engine .suspended)
        ∧ (w.state = .suspending true → s.sweepTake w d = u.endWalk w .cancelled))
    ∧ (∀ p, e.contents = .revoking p → inSet d p.domains = true →
        s.sweepTake w d = on (counted (fun c => { c with changed := c.changed + 1 })
          (u.sweepWrite i (.revoking (rest p)))))

/-- The steps of a domain sweep and of a scrub, in RUNNING and SUSPENDING. A domain sweep at position 0 of a frozen group
skips the whole group; a scrub reads no freeze mark. -/
def Obligations.WalkSteps : Prop :=
  ∀ (w : Walk) (s : State), Walking w s → (w.state = .running ∨ ∃ c, w.state = .suspending c) →
    let i := w.cursor
    (∀ d, w.kind = .domainSweep d →
      let skips := i.val % 32 = 0 ∧ s.freeze.marks.getLsbD (i.val / 32) = true
      (skips → exec .sweepStep s = .next ((s.updateReport (updateCounts
        (fun c => { c with skipped := c.skipped + 1 }))).advance w (i.val + 32)))
      ∧ (¬ skips → exec .sweepStep s = .next (s.sweepTake w d)))
    ∧ (w.kind = .scrub →
      let u := s.readEntry .scrub i
      ((u.entry i).contents = .poisoned → exec .scrubStep s =
        .next ((u.updateReport (fun r => { r with poisoned := r.poisoned + 1 })).advance w (i.val + 1)))
      ∧ ((u.entry i).contents ≠ .poisoned → exec .scrubStep s = .next (u.advance w (i.val + 1))))

/-- A waiting domain sweep retakes its entry within the event that removes a drain item, brings the waiting entry's claim
count to 0 or poisons it, and in no other event; the row SWEEP_RETAKE retakes where such a condition stands (log 13). -/
def Obligations.WaitingSweepRetakes : Prop :=
  ∀ (w : Walk) (d : Domain) (s t : State), Walking w t → w.kind = .domainSweep d →
    let again (u : State) : State := u.sweepTake { w with state := .running } d
    let e (u : State) : GrantEntry := u.entry w.cursor
    let happened := t.drain.length < s.drain.length ∨ ((e s).claimCount ≠ 0 ∧ (e t).claimCount = 0)
      ∨ ((e s).contents ≠ .poisoned ∧ (e t).contents = .poisoned)
    (w.state = .waitingDrain → happened → settle s t = again t)
    ∧ (w.state ≠ .waitingDrain ∨ ¬ happened → settle s t = t)
    ∧ (w.state = .waitingDrain → t.drain.length < 16 ∨ (e t).claimCount = 0 ∨ (e t).contents = .poisoned →
        exec .sweepRetake t = .next (again t))

/-! ### Start-up and resets -/

/-- The image as it is read: each word two bytes of the NVM, most significant first, read as 0xFF where the NVM holds none; it
fails as a whole on the signature, a length below 7 or a sum other than 0; a section is absent, misplaced or placed.
IMAGE_LOAD_DONE, which does all that is left of the load (log 5) and does not come while RESET is low (log 9): a failed image
applies nothing, sets HEADER_FAIL and reports IMAGE with item HEADER; a good one is applied section after section, Control,
Requester, Preload, Freeze, from whichever piece the load has come to; whatever the image, the phase becomes RUNNING, BOOT_DONE
is raised and each shadow equals the lower byte of its setting. In a ns with nothing waiting the loader takes its next piece or
none, never the one that ends the load (log 5): the first pass, a section, one preload record; each leads to the next in that
order, and a piece taken beforehand leaves the load's end as it is. (What the NVM holds may differ from load to load, log 4.) -/
def Obligations.ImageLoadEnds : Prop :=
  (∀ m : List Byte,
    let word (k : Nat) : Nat := (nvmWord m k).toNat
    let L := word 1
    (∀ k < 8388608, nvmWord m k = m.getD (2 * k) 0xFF#8 ++ m.getD (2 * k + 1) 0xFF#8)
    ∧ (∀ start n, start + n ≤ 8388608 → nvmWords m start n = (List.range n).map (fun k => nvmWord m (start + k)))
    ∧ (imageFails m = true ↔ word 0 ≠ 0x7C4E ∨ L < 7 ∨ ((List.range L).map word).sum % 65536 ≠ 0)
    ∧ (∀ h : Nat,
      let o := word h
      let misplaced := o < 6 ∨ L ≤ o + 1 ∨ L ≤ o + 1 + word o
      (o = 0xFFFF → sectionAt m h = .absent) ∧ (o ≠ 0xFFFF → misplaced → sectionAt m h = .misplaced)
      ∧ (o ≠ 0xFFFF → ¬ misplaced → sectionAt m h = .placed o (word o))))
  ∧ ∀ s : State, s.loader.phase = .loading → s.resetLow = false →
    let running (v : State) : State := { v with
      loader := { v.loader with phase := .running, work := .nothing }
      settings := equalizeShadows v.settings
      errors := raiseEvent .bootDone v.errors }
    (s.loader.work = .check → imageFails s.nvm = true →
      exec .imageLoadDone s = .next { s with
        loader := { s.loader with phase := .running, flags := { s.loader.flags with headerFail := true }, work := .nothing }
        settings := equalizeShadows s.settings
        errors := raiseEvent .bootDone (recordError s.settings (.image .header none) s.errors) })
    ∧ (s.loader.work = .check → imageFails s.nvm = false →
      let control : State := { s with loader := { s.loader with work := .control } }
      exec .imageLoadDone s =
        .next (running control.loadControl.loadRequesters.loadPreloadStart.loadFromPreload.loadFreeze))
    ∧ (s.loader.work = .control → exec .imageLoadDone s =
        .next (running s.loadControl.loadRequesters.loadPreloadStart.loadFromPreload.loadFreeze))
    ∧ (s.loader.work = .requester → exec .imageLoadDone s =
        .next (running s.loadRequesters.loadPreloadStart.loadFromPreload.loadFreeze))
    ∧ (s.loader.work = .preloadStart → exec .imageLoadDone s =
        .next (running s.loadPreloadStart.loadFromPreload.loadFreeze))
    ∧ (∀ words installed skipped, s.loader.work = .preload words installed skipped → exec .imageLoadDone s =
        .next (running s.loadFromPreload.loadFreeze))
    ∧ (s.loader.work = .freeze → exec .imageLoadDone s = .next (running s.loadFreeze))
    ∧ (s.loader.work = .finish → exec .imageLoadDone s = .next (running s))
    ∧ exec .imageLoadDone s.loadPiece = exec .imageLoadDone s
    ∧ (let begun : State := { s with free := s.free + 1 }
      s.loadTick = begun ∨ (s.loadTick = begun.loadPiece ∧ begun.loadPiece.loader.work ≠ .finish))
    ∧ (s.loader.work = .check → imageFails s.nvm = false →
        s.loadPiece = { s with loader := { s.loader with work := .control } })
    ∧ (s.loader.work = .control → s.loadPiece = s.loadControl ∧ s.loadPiece.loader.work = .requester)
    ∧ (s.loader.work = .requester → s.loadPiece = s.loadRequesters ∧ s.loadPiece.loader.work = .preloadStart)
    ∧ (s.loader.work = .preloadStart → s.loadPiece = s.loadPreloadStart
        ∧ ∃ words skipped, s.loadPiece.loader.work = .preload words [] skipped)
    ∧ (∀ a b c rest installed skipped, s.loader.work = .preload (a :: b :: c :: rest) installed skipped →
        let r := takePreload a b c ⟨s, installed, skipped⟩
        s.loadPiece = { r.state with loader := { s.loader with work := .preload rest r.installed r.skipped } })
    ∧ (∀ words installed skipped, s.loader.work = .preload words installed skipped → words.length < 3 →
        s.loadPiece = s.loadFromPreload ∧ s.loadPiece.loader.work = .freeze)
    ∧ (s.loader.work = .freeze → s.loadPiece = s.loadFreeze ∧ s.loadPiece.loader.work = .finish)
    ∧ ∃ t, exec .imageLoadDone s = .next t ∧ t.loader.phase = .running ∧ t.loader.work = .nothing
      ∧ t.errors.events = s.errors.events ||| 0b01000#5
      ∧ t.settings.shadowInt = t.settings.routeInt.setWidth 8
      ∧ t.settings.shadowAlert = t.settings.routeAlert.setWidth 8
      ∧ t.claims = s.claims ∧ t.queue = s.queue ∧ t.port = s.port ∧ t.batch = s.batch ∧ t.sweep = s.sweep
      ∧ t.drain = s.drain ∧ t.mgmt = s.mgmt

/-- The four sections. Control: the pairs in their order, each value in range taken, out of range its default with
CONTROL_FALLBACK, an unknown id skipped; then the settings (shadows apart), the miss policies and the window geometry are
fixed, the base with the bits below the window size cleared, and CONTROL_SKIPPED is reported. Requester: the records in their
order, a skipped one counted; the Requester Defaults and the live records are taken. Preload: a record installs its entry whole
as LIVE, generation raised, claim count kept (a count other than 0 takes storage damage; keeping it is the model's choice, log
26), unless it is skipped (log 20, log 21); the place of a placed section is captured. Freeze: a range of two groups is set, anything else spends the acceptance and is reported. An absent section is
taken as an empty one (Freeze: nothing), a misplaced one as one skipped item. (A record whose id an earlier one named is
skipped, taken or not, log 15.) -/
def Obligations.ImageSections : Prop :=
  (∀ (c : ControlValues) (s : State),
    let u := s.applyControl c
    let page : PageSize := if c.pageCode = 1 then .k64 else .k4
    let base := c.baseHigh * 2 ^ 32 + c.baseMiddle * 2 ^ 16 + c.baseLow
    let size := 4096 * pageBytes page
    u.store.pageSize = page ∧ u.store.base = BitVec.ofNat 40 (base - base % size)
    ∧ (u.loader.flags.controlFallback = true ↔
      s.loader.flags.controlFallback = true ∨ c.fallback = true ∨ 1 < c.pageCode ∨ base % size ≠ 0)
    ∧ u.store.entries = s.store.entries ∧ u.store.lockMark = s.store.lockMark
    ∧ (∀ d : Domain, u.domainRecord d = ⟨c.pass.getLsbD d.val, (s.domainRecord d).closing⟩)
    ∧ u.settings = { c.settings with shadowInt := s.settings.shadowInt, shadowAlert := s.settings.shadowAlert }
    ∧ u.loader = { s.loader with flags := { s.loader.flags with
        controlFallback := u.loader.flags.controlFallback
        controlSkipped := s.loader.flags.controlSkipped || decide (c.skipped ≠ 0) } }
    ∧ (c.skipped = 0 → u.errors = s.errors)
    ∧ (c.skipped ≠ 0 → u.errors = recordError u.settings (.image .control (some (min c.skipped 255))) s.errors)
    ∧ u = { s with
        settings := u.settings, store := u.store, loader := u.loader, errors := u.errors
        requesters := { s.requesters with domains := u.requesters.domains } })
  ∧ (∀ (v : Nat) (c : ControlValues),
    let set (f : Settings → Settings) : ControlValues := { c with settings := f c.settings }
    let default (f : Settings → Settings) : ControlValues := { c with settings := f c.settings, fallback := true }
    controlPair 0x0001 v c = { c with pageCode := v }
    ∧ (v < 256 → controlPair 0x0002 v c = { c with baseHigh := v })
    ∧ (256 ≤ v → controlPair 0x0002 v c = { c with baseHigh := 0, fallback := true })
    ∧ controlPair 0x0003 v c = { c with baseMiddle := v } ∧ controlPair 0x0004 v c = { c with baseLow := v }
    ∧ (∀ x, snoopOfCode v = some x → controlPair 0x0010 v c = set (fun y => { y with snoop := x }))
    ∧ (1 < v → controlPair 0x0010 v c = default (fun y => { y with snoop := .snooped }))
    ∧ (∀ x, discardTimeOfCode v = some x → controlPair 0x0011 v c = set (fun y => { y with discardTime := x }))
    ∧ (3 < v → controlPair 0x0011 v c = default (fun y => { y with discardTime := .us256 }))
    ∧ (∀ x, drainTimeOfCode v = some x → controlPair 0x0012 v c = set (fun y => { y with drainTime := x }))
    ∧ (4 < v → controlPair 0x0012 v c = default (fun y => { y with drainTime := .ms16 }))
    ∧ (∀ x, quarantineTimeOfCode v = some x → controlPair 0x0013 v c = set (fun y => { y with quarantineTime := x }))
    ∧ (3 < v → controlPair 0x0013 v c = default (fun y => { y with quarantineTime := .ms100 }))
    ∧ (v < 16 → controlPair 0x0014 v c = set (fun y => { y with threshold := BitVec.ofNat 4 v }))
    ∧ (16 ≤ v → controlPair 0x0014 v c = default (fun y => { y with threshold := 8#4 }))
    ∧ (v < 128 → controlPair 0x0015 v c = set (fun y => { y with masks := BitVec.ofNat 7 v }))
    ∧ (128 ≤ v → controlPair 0x0015 v c = default (fun y => { y with masks := 0#7 }))
    ∧ (v < 512 → controlPair 0x0016 v c = set (fun y => { y with routeInt := BitVec.ofNat 9 v }))
    ∧ (512 ≤ v → controlPair 0x0016 v c = default (fun y => { y with routeInt := 0#9 }))
    ∧ (v < 512 → controlPair 0x0017 v c = set (fun y => { y with routeAlert := BitVec.ofNat 9 v }))
    ∧ (512 ≤ v → controlPair 0x0017 v c = default (fun y => { y with routeAlert := 0#9 }))
    ∧ (v < 32 → controlPair 0x0018 v c = set (fun y => { y with enables := BitVec.ofNat 5 v }))
    ∧ (32 ≤ v → controlPair 0x0018 v c = default (fun y => { y with enables := 0#5 }))
    ∧ (v < 256 → controlPair 0x0019 v c = { c with pass := BitVec.ofNat 8 v })
    ∧ (256 ≤ v → controlPair 0x0019 v c = { c with pass := 0#8, fallback := true })
    ∧ (∀ id, id ∉ [0x0001, 0x0002, 0x0003, 0x0004, 0x0010, 0x0011, 0x0012, 0x0013, 0x0014, 0x0015, 0x0016, 0x0017, 0x0018,
        0x0019] → controlPair id v c = { c with skipped := c.skipped + 1 })
    ∧ controlPairs [] c = c ∧ (∀ a, controlPairs [a] c = { c with skipped := c.skipped + 1 })
    ∧ (∀ a b rest, controlPairs (a :: b :: rest) c = controlPairs rest (controlPair a.toNat b.toNat c)))
  ∧ (∀ (a b : ImageWord) (v : RequesterValues),
    let id := (a.extractLsb' 8 8).toNat
    let accepted := id < 16 ∧ (a.setWidth 8).toNat < 2 ∧ (b.extractLsb' 8 8).toNat < 8 ∧ (b.setWidth 8).toNat < 65
      ∧ id ∉ v.named ∧ v.taken < 16
    (¬ accepted → takeRequester a b v = ⟨v.defaults, v.taken + 1, id :: v.named, v.skipped + 1⟩)
    ∧ (∀ (r : ReqId) (d : Domain) (l : Fin 65), accepted → r.val = id → d.val = (b.extractLsb' 8 8).toNat →
      l.val = (b.setWidth 8).toNat →
      takeRequester a b v = ⟨v.defaults.set r ⟨a.getLsbD 0, d, l⟩, v.taken + 1, id :: v.named, v.skipped⟩)
    ∧ requesterRecords [] v = v ∧ requesterRecords [a] v = { v with skipped := v.skipped + 1 }
    ∧ (∀ rest, requesterRecords (a :: b :: rest) v = requesterRecords rest (takeRequester a b v)))
  ∧ (∀ (v : RequesterValues) (s : State),
    let u := s.applyRequesters v
    u.requesters.defaults = v.defaults ∧ u.requesters.domains = s.requesters.domains
    ∧ (∀ r : ReqId,
      let d := v.defaults[r]
      u.requester r = ⟨if d.enabled then .enabled else .disabled, d.domain, d.limit, 0, none, none⟩)
    ∧ (v.skipped = 0 → u = { s with requesters := u.requesters })
    ∧ (v.skipped ≠ 0 → u = { s with
      requesters := u.requesters
      loader := { s.loader with flags := { s.loader.flags with requesterSkipped := true } }
      errors := recordError s.settings (.image .requester (some (min v.skipped 255))) s.errors }))
  ∧ (∀ (a b c : ImageWord) (i : EntryIx) (s : State) (installed : List Nat) (skipped : Nat),
    let p : Placement := ⟨b ++ c.extractLsb' 8 8, if a.getLsbD 15 then .readWrite else .readOnly,
      if a.getLsbD 14 then .direct else .snooped, c.setWidth 8⟩
    let live : GrantEntry := ⟨.live p, (s.entry i).claimCount, (s.entry i).generation + 1#16, evenParity (.live p)⟩
    let bad := a.getLsbD 13 = true ∨ a.getLsbD 12 = true ∨ c.setWidth 8 = 0#8 ∨ i.val ∈ installed
    let run : PreloadRun := ⟨s, installed, skipped⟩
    (i.val = (a.setWidth 12).toNat →
      (bad → takePreload a b c run = ⟨s, installed, skipped + 1⟩)
      ∧ (¬ bad → takePreload a b c run =
        ⟨{ s with store := { s.store with entries := Table.put s.store.entries i.val live } },
          i.val :: installed, skipped⟩))
    ∧ preloadRecords [] run = run ∧ preloadRecords [a] run = ⟨s, installed, skipped + 1⟩
    ∧ preloadRecords [a, b] run = ⟨s, installed, skipped + 1⟩
    ∧ (∀ rest, preloadRecords (a :: b :: c :: rest) run = preloadRecords rest (takePreload a b c run)))
  ∧ ∀ s : State,
    let working (w : LoadWork) (u : State) : State := { u with loader := { u.loader with work := w } }
    let control : ControlValues := ⟨State.reset.settings, 0#8, 0, 0, 0, 0, false, 0⟩
    let requesters : RequesterValues := ⟨Vector.replicate 16 ⟨false, 0, 0⟩, 0, [], 0⟩
    let unfrozen : State := { s with
      freeze := { s.freeze with rangeUsed := true }
      loader := { s.loader with work := .finish, flags := { s.loader.flags with freezeSkipped := true } }
      errors := recordError s.settings (.image .freeze (some 1)) s.errors }
    (sectionAt s.nvm 2 = .absent → s.loadControl = working .requester (s.applyControl control))
    ∧ (sectionAt s.nvm 2 = .misplaced → s.loadControl = working .requester (s.applyControl { control with skipped := 1 }))
    ∧ (∀ o n, sectionAt s.nvm 2 = .placed o n →
      s.loadControl = working .requester (s.applyControl (controlPairs (nvmWords s.nvm (o + 1) n) control)))
    ∧ (sectionAt s.nvm 3 = .absent → s.loadRequesters = working .preloadStart (s.applyRequesters requesters))
    ∧ (sectionAt s.nvm 3 = .misplaced →
      s.loadRequesters = working .preloadStart (s.applyRequesters { requesters with skipped := 1 }))
    ∧ (∀ o n, sectionAt s.nvm 3 = .placed o n →
      s.loadRequesters =
        working .preloadStart (s.applyRequesters (requesterRecords (nvmWords s.nvm (o + 1) n) requesters)))
    ∧ (sectionAt s.nvm 4 = .absent → s.loadPreloadStart = working (.preload [] [] 0) s)
    ∧ (sectionAt s.nvm 4 = .misplaced → s.loadPreloadStart = working (.preload [] [] 1) s)
    ∧ (∀ o n, sectionAt s.nvm 4 = .placed o n → s.loadPreloadStart = { s with
      loader := { s.loader with work := .preload (nvmWords s.nvm (o + 1) n) [] 0, capture := some ⟨o, n⟩ } })
    ∧ (∀ words installed skipped, s.loader.work = .preload words installed skipped → s.loader.phase = .loading →
      let r := preloadRecords words ⟨s, installed, skipped⟩
      (r.skipped = 0 → s.loadFromPreload = working .freeze r.state)
      ∧ (r.skipped ≠ 0 → s.loadFromPreload = { r.state with
        loader := { s.loader with work := .freeze, flags := { s.loader.flags with preloadSkipped := true } }
        errors := recordError s.settings (.image .preload (some (min r.skipped 255))) s.errors }))
    ∧ (sectionAt s.nvm 5 = .absent → s.loadFreeze = working .finish s)
    ∧ (sectionAt s.nvm 5 = .misplaced → s.loadFreeze = unfrozen)
    ∧ (∀ o n, sectionAt s.nvm 5 = .placed o n →
      let lower := (nvmWord s.nvm (o + 1)).toNat
      let upper := (nvmWord s.nvm (o + 2)).toNat
      (n ≠ 2 ∨ 127 < upper ∨ upper < lower → s.loadFreeze = unfrozen)
      ∧ (∀ l u : Group, n = 2 → l.val = lower → u.val = upper → l ≤ u → ∃ marks,
        s.loadFreeze = working .finish { s with freeze := ⟨marks, some ⟨l, u⟩, true⟩ }
        ∧ ∀ g : Group, marks.getLsbD g.val = (s.freeze.marks.getLsbD g.val || decide (l ≤ g ∧ g ≤ u))))

/-- PRELOAD_RELOAD_DONE: what is left of the captured section is taken (log 5); PRELOAD_SKIPPED and IMAGE when a record was
skipped; then the phase is RUNNING and BOOT_DONE is raised at that event. -/
def Obligations.PreloadReloadEnds : Prop :=
  ∀ (words : List ImageWord) (installed : List Nat) (skipped : Nat) (s : State),
    s.loader.phase = .reloading → s.loader.work = .preload words installed skipped →
    let r := preloadRecords words ⟨s, installed, skipped⟩
    let running : ImageLoader := { s.loader with phase := .running, work := .nothing }
    (r.skipped = 0 → exec .preloadReloadDone s = .next { r.state with
      loader := running
      errors := { s.errors with events := s.errors.events ||| 0b01000#5 } })
    ∧ (r.skipped ≠ 0 → exec .preloadReloadDone s = .next { r.state with
      loader := { running with flags := { s.loader.flags with preloadSkipped := true } }
      errors := raiseEvent .bootDone
        (recordError s.settings (.image .preload (some (min r.skipped 255))) s.errors) })
    ∧ r.state = { s with store := { s.store with entries := r.state.store.entries } }

/-- The four ways to a full reset: every block takes its full-reset values, the straps are sampled; the Commit Result is
ABANDONED after the RESET line or FULL_RESET taken in COMMITTING, else NONE. (The line's level, log 9; values the spec does
not give, log 16; a transaction in progress is cut off, log 17; each begins a load of its own, log 4.) -/
def Obligations.FullResets : Prop :=
  ∀ s : State,
    let from' (b : Board) (low : Bool) (n : Nat) (result : CommitResult) (x : Transaction) : State := { State.reset with
      batch := ⟨.idle, none, result⟩
      mgmt := { State.reset.mgmt with
        mode := if b.ifsel then .spi else .i2c
        device := 0x2C#7 + b.addr.setWidth 7
        transaction := x }
      board := b, resetLow := low, loads := n, now := s.now, free := s.free, pending := s.pending }
    let cut : Transaction := if s.mgmt.transaction = .none then .none else .cutOff
    (∀ b, exec (.powerOn b) s = .next (from' b false 0 .none .none))
    ∧ (∀ g n ops copies k t, s.batch.staging = .committing g n ops copies k t →
      (s.resetLow = false → exec .resetAssert s = .next (from' s.board true (s.loads + 1) (.abandoned g ops.length) cut))
      ∧ (s.writesAt 0x5C#7 = true → exec .fullReset s = .next (from' s.board s.resetLow (s.loads + 1) (.abandoned g ops.length) cut)))
    ∧ (committing s.batch.staging = false →
      (s.resetLow = false → exec .resetAssert s = .next (from' s.board true (s.loads + 1) .none cut))
      ∧ (s.writesAt 0x5C#7 = true → exec .fullReset s = .next (from' s.board s.resetLow (s.loads + 1) .none cut)))
    ∧ exec .resetRelease s = .next { s with resetLow := false }

/-- TABLE_RESET, accepted: the phase is RELOADING; every slot is EMPTY and the claims slots carried are FREE, the other ACTIVE
ones ORPHANED; a commit is ABANDONED; a walk is CANCELLED; the Drain List is empty; every entry is VACANT; the words at the
captured place are to be read again, from what the NVM holds at this load (log 4). Requesters, miss policies, other domain
records, settings, window geometry, freeze state, error records and ALERT marks stand. -/
def Obligations.TableResetAccepted : Prop :=
  ∀ s : State, Commanded s → NoOpenBatch s →
    ∃ t, exec .tableReset s = .next t ∧ t.loader.phase = .reloading
      ∧ (∀ k : SlotIx, t.queue[k] = .empty)
      ∧ (∀ (x : Tag) (k : SlotIx), slotTag s.queue[k] = some x → t.claims[x] = .free)
      ∧ (∀ (x : Tag) c, s.claims[x] = .active c → (∀ k : SlotIx, slotTag s.queue[k] ≠ some x) →
          t.claims[x] = .orphaned c)
      ∧ (∀ (x : Tag), (∀ c, s.claims[x] ≠ .active c) → (∀ k : SlotIx, slotTag s.queue[k] ≠ some x) →
          t.claims[x] = s.claims[x])
      ∧ t.batch.staging = .idle ∧ t.store.lockMark = none ∧ t.batch.abort = s.batch.abort
      ∧ (∀ g n ops copies k y, s.batch.staging = .committing g n ops copies k y →
          t.batch.result = .abandoned g ops.length)
      ∧ (committing s.batch.staging = false → t.batch.result = s.batch.result)
      ∧ t.sweep.walk = none ∧ (∀ d, (t.domainRecord d).pass = (s.domainRecord d).pass)
      ∧ (∀ w d, s.sweep.walk = some w → w.kind ≠ .domainSweep d → t.domainRecord d = s.domainRecord d)
      ∧ (∀ w, s.sweep.walk = some w → t.sweep.result = s.sweep.result.map (fun r => { r with ending := .cancelled })
          ∧ t.errors.events = s.errors.events ||| 0b00010#5
          ∧ ∀ d, w.kind = .domainSweep d → (t.domainRecord d).closing = false)
      ∧ (s.sweep.walk = none → t.sweep.result = s.sweep.result ∧ t.errors.events = s.errors.events
          ∧ t.requesters = s.requesters)
      ∧ t.drain = [] ∧ (∀ i, t.entry i = ⟨.vacant, 0, 0#16, false⟩)
      ∧ t.store.pageSize = s.store.pageSize ∧ t.store.base = s.store.base
      ∧ t.loader.flags = { s.loader.flags with preloadSkipped := false } ∧ t.loader.capture = s.loader.capture
      ∧ t.loads = s.loads + 1
      ∧ (s.loader.capture = none → t.loader.work = .preload [] [] 0)
      ∧ (∀ x, s.loader.capture = some x → t.loader.work = .preload (nvmWords t.nvm (x.offset + 1) x.length) [] 0)
      ∧ t.nvm = (s.board.nvm[s.loads + 1]?).getD (s.board.nvm.getLastD [])
      ∧ t.mgmt = { s.mgmt with
          status := .busyStarted, reason := none, pointer := s.mgmt.pointer + 1#7, sent := none }
      ∧ t.requesters.live = s.requesters.live ∧ t.requesters.defaults = s.requesters.defaults
      ∧ t.settings = s.settings ∧ t.freeze = s.freeze ∧ t.port = s.port ∧ t.errors.first = s.errors.first
      ∧ t.errors.next = s.errors.next ∧ t.errors.override = s.errors.override
      ∧ t.errors.alertAsserted = s.errors.alertAsserted

/-! ### Host commands -/

/-- What every host command goes through: the status it leaves, STARTING while the part is starting, and the abort of an open
batch before its own tests. -/
def Obligations.CommandGate : Prop :=
  ∀ s : State,
    s.ended .done = { s with
      mgmt := { s.mgmt with status := .done, reason := none, pointer := s.mgmt.pointer + 1#7, sent := none } }
    ∧ s.ended .busyStarted = { s with
      mgmt := { s.mgmt with status := .busyStarted, reason := none, pointer := s.mgmt.pointer + 1#7, sent := none } }
    ∧ (∀ r, s.ended (.refused r) = { s with
      mgmt := { s.mgmt with status := .refused, reason := some r, pointer := s.mgmt.pointer + 1#7, sent := none } })
    ∧ (∀ c ∈ interruptingCommands ++ batchCommands, s.writesAt 0x5C#7 = true → s.loader.phase ≠ .running →
      exec c s = .next (s.ended (.refused .starting)))
    ∧ (∀ c ∈ interruptingCommands, Commanded s → openBatch s.batch.staging = true →
      exec c s = exec c { s with
        batch := { s.batch with staging := .idle, abort := some .interrupted }
        errors := recordError s.settings (.batchAbort .interrupted) s.errors })

/-- A code in no row of the command table is refused BAD_OPERAND in every phase and aborts no batch. A code written at the
command register by REGISTER_WRITE dispatches its command. Without a write at the command register no command is
dispatched (the model's reading of a row as the write of its code, log 1 and log 10). -/
def Obligations.CommandDispatch : Prop :=
  ∀ s : State,
    (∀ code, commandCodes.contains code = false → s.writesAt 0x5C#7 = true →
      exec (.undefinedCommandCode code) s = .next (s.ended (.refused .badOperand)))
    ∧ (∀ b : Bus, s.selects b = true → s.writesAt 0x5C#7 = true →
      (∀ x ∈ commandTable, exec (.registerWrite b x.1) s = exec x.2 s)
      ∧ (∀ code, commandCodes.contains code = false →
        exec (.registerWrite b code) s = exec (.undefinedCommandCode code) s))
    ∧ (s.writesAt 0x5C#7 = false → ∀ x ∈ commandTable, exec x.2 s = .next s)

/-- BATCH_OPEN with no batch open; BATCH_LOAD and BATCH_DISCARD in every state of the buffer. -/
def Obligations.BatchesAreLoaded : Prop :=
  (∀ s : State, Commanded s → NoOpenBatch s →
      let n := operandByte s 1
      (committing s.batch.staging = true → exec .batchOpen s = .next (s.ended (.refused .busy)))
      ∧ (committing s.batch.staging = false → (127 < operandByte s 0 ∨ n = 0 ∨ 64 < n) →
        exec .batchOpen s = .next (s.ended (.refused .badOperand)))
      ∧ (∀ g : Group, committing s.batch.staging = false → g.val = operandByte s 0 → 32 < n → n ≤ 64 →
        exec .batchOpen s = .next (State.ended { s with
          batch := { s.batch with staging := .idle, abort := some .count }
          errors := recordError s.settings (.batchAbort .count) s.errors } .done))
      ∧ (∀ g : Group, committing s.batch.staging = false → g.val = operandByte s 0 → 0 < n → n ≤ 32 →
        exec .batchOpen s = .next (State.ended { s with
          batch := { s.batch with staging := .loading g n [], abort := none } } .done)))
  ∧ (∀ s : State, Commanded s →
      let aborted (r : AbortReason) : State := { s with
        batch := { s.batch with staging := .idle, abort := some r }
        errors := recordError s.settings (.batchAbort r) s.errors }
      let buffer (x : Staging) : State := { s with batch := { s.batch with staging := x } }
      (s.batch.staging = .idle → exec .batchLoad s = .next (s.ended (.refused .noBatch)))
      ∧ (committing s.batch.staging = true → exec .batchLoad s = .next (s.ended (.refused .busy)))
      ∧ (∀ g n ops, s.batch.staging = .loaded g n ops → exec .batchLoad s = .next ((aborted .overflow).ended .done))
      ∧ (∀ g n ops, s.batch.staging = .loading g n ops →
        (operandOp s = none → exec .batchLoad s = .next (s.ended (.refused .badOperand)))
        ∧ (∀ op, operandOp s = some op →
          (groupOf (opEntry op) ≠ g → exec .batchLoad s = .next ((aborted .outside).ended .done))
          ∧ (groupOf (opEntry op) = g → opEntry op ∈ ops.map opEntry →
            exec .batchLoad s = .next ((aborted .duplicate).ended .done))
          ∧ (groupOf (opEntry op) = g → opEntry op ∉ ops.map opEntry → ops.length + 1 = n →
            exec .batchLoad s = .next ((buffer (.loaded g n (ops ++ [op]))).ended .done))
          ∧ (groupOf (opEntry op) = g → opEntry op ∉ ops.map opEntry → ops.length + 1 ≠ n →
            exec .batchLoad s = .next ((buffer (.loading g n (ops ++ [op]))).ended .done))))
      ∧ (committing s.batch.staging = true → exec .batchDiscard s = .next (s.ended (.refused .busy)))
      ∧ (committing s.batch.staging = false → exec .batchDiscard s = .next ((buffer .idle).ended .done)))

/-- BATCH_COMMIT in every state of the buffer; in LOADED the freeze test, the two sweep tests, then acceptance. -/
def Obligations.BatchCommits : Prop :=
  ∀ s : State, Commanded s →
    (s.batch.staging = .idle → exec .batchCommit s = .next (s.ended (.refused .noBatch)))
    ∧ (committing s.batch.staging = true → exec .batchCommit s = .next (s.ended (.refused .busy)))
    ∧ (∀ g n ops, s.batch.staging = .loading g n ops → exec .batchCommit s = .next (State.ended { s with
      batch := { s.batch with staging := .idle, abort := some .short }
      errors := recordError s.settings (.batchAbort .short) s.errors } .done))
    ∧ (∀ g n ops, s.batch.staging = .loaded g n ops →
      let frozen := s.freeze.marks.getLsbD g.val = true
      let held := ∃ w, s.sweep.walk = some w ∧ (w.state ≠ .suspended ∨ groupOf w.cursor = g)
      (frozen → exec .batchCommit s = .next (State.ended { s with
        batch := { s.batch with staging := .idle, result := .protectedGroup g }
        errors := recordError s.settings (.commitReject .protectedGroup none) s.errors } .done))
      ∧ (¬ frozen → held → exec .batchCommit s = .next (s.ended (.refused .busy)))
      ∧ (¬ frozen → ¬ held → ∃ t, exec .batchCommit s = .next t
        ∧ t = State.ended { s with
          batch := { s.batch with
            staging := .committing g n ops [] 0 ⟨0, 0, 0, 0, 0⟩, result := .inProgress g ops.length }
          store := { s.store with lockMark := some g }
          queue := t.queue } .busyStarted
        ∧ (∀ (k : SlotIx) q i a d, s.queue[k] = .ready q i a d → groupOf i = g → a.tag = none →
          t.queue[k] = .waiting q i)
        ∧ (∀ k : SlotIx, (∀ q i a d, s.queue[k] = .ready q i a d → groupOf i = g → a.tag ≠ none) →
          t.queue[k] = s.queue[k])))

/-- The four freeze commands, with no batch open: each changes marks, range and range-used mark alone. -/
def Obligations.FreezeCommands : Prop :=
  ∀ s : State, Commanded s → NoOpenBatch s →
    let marked (m : BitVec 128) : State := { s with freeze := { s.freeze with marks := m } }
    let inside (g : Group) := ∃ r, s.freeze.range = some r ∧ r.lower ≤ g ∧ g ≤ r.upper
    (127 < operandByte s 0 → exec .freezeGroup s = .next (s.ended (.refused .badOperand))
      ∧ exec .thawGroup s = .next (s.ended (.refused .badOperand)))
    ∧ (∀ g : Group, g.val = operandByte s 0 →
      (s.store.lockMark = some g → exec .freezeGroup s = .next (s.ended (.refused .busy)))
      ∧ (s.store.lockMark ≠ some g →
        exec .freezeGroup s = .next ((marked (s.freeze.marks ||| (1#128 <<< g.val))).ended .done))
      ∧ (inside g → exec .thawGroup s = .next (s.ended (.refused .inRange)))
      ∧ (¬ inside g → exec .thawGroup s = .next ((marked (s.freeze.marks &&& ~~~(1#128 <<< g.val))).ended .done)))
    ∧ (committing s.batch.staging = true → exec .freezeAll s = .next (s.ended (.refused .busy)))
    ∧ (committing s.batch.staging = false → exec .freezeAll s = .next ((marked (BitVec.allOnes 128)).ended .done))
    ∧ (127 < operandByte s 0 ∨ 127 < operandByte s 1 ∨ operandByte s 1 < operandByte s 0 →
      exec .freezeRange s = .next (s.ended (.refused .badOperand)))
    ∧ (∀ l u : Group, l.val = operandByte s 0 → u.val = operandByte s 1 → l ≤ u →
      (s.freeze.rangeUsed = true → exec .freezeRange s = .next (s.ended (.refused .alreadySet)))
      ∧ (s.freeze.rangeUsed = false → ∃ t, exec .freezeRange s = .next t
        ∧ t = State.ended { s with freeze := ⟨t.freeze.marks, some ⟨l, u⟩, true⟩ } .done
        ∧ ∀ g : Group, t.freeze.marks.getLsbD g.val = (s.freeze.marks.getLsbD g.val || decide (l ≤ g ∧ g ≤ u))))

/-- DOMAIN_SWEEP and SCRUB, with no batch open. -/
def Obligations.WalksStart : Prop :=
  ∀ s : State, Commanded s → NoOpenBatch s →
    let busy := s.sweep.walk ≠ none ∨ committing s.batch.staging = true
    let started (k : WalkKind) (x : SweepSubject) (u : State) : State :=
      { u with sweep := ⟨some ⟨.running, k, 0⟩, some ⟨.inProgress, x, 0, 0⟩⟩ }
    (7 < operandByte s 0 → exec .domainSweep s = .next (s.ended (.refused .badOperand)))
    ∧ (operandByte s 0 ≤ 7 → busy → exec .domainSweep s = .next (s.ended (.refused .busy)))
    ∧ (∀ d : Domain, d.val = operandByte s 0 → ¬ busy →
      exec .domainSweep s = .next (State.ended (started (.domainSweep d) (.domainSweep d ⟨0, 0, 0, 0⟩) { s with
        requesters := { s.requesters with
          domains := s.requesters.domains.set d { s.domainRecord d with closing := true } } }) .busyStarted))
    ∧ (busy → exec .scrub s = .next (s.ended (.refused .busy)))
    ∧ (¬ busy → exec .scrub s = .next ((started .scrub .scrub s).ended .busyStarted))

/-- SWEEP_SUSPEND, SWEEP_RESUME and SWEEP_CANCEL, with no batch open, in every state of the engine. -/
def Obligations.WalksAreSteered : Prop :=
  ∀ s : State, Commanded s → NoOpenBatch s →
    let engine (x : WalkState) (w : Walk) : State := { s with sweep := { s.sweep with walk := some { w with state := x } } }
    (s.sweep.walk = none → exec .sweepSuspend s = .next (s.ended (.refused .notRunning))
      ∧ exec .sweepResume s = .next (s.ended (.refused .notSuspended))
      ∧ exec .sweepCancel s = .next (s.ended (.refused .notRunning)))
    ∧ (∀ w, s.sweep.walk = some w →
      (w.state = .running → exec .sweepSuspend s = .next ((engine (.suspending false) w).ended .done))
      ∧ (w.state = .waitingDrain → exec .sweepSuspend s = .next ((engine .suspended w).ended .done))
      ∧ (w.state = .suspended ∨ (∃ c, w.state = .suspending c) →
        exec .sweepSuspend s = .next (s.ended (.refused .notRunning)))
      ∧ (w.state ≠ .suspended → exec .sweepResume s = .next (s.ended (.refused .notSuspended)))
      ∧ (w.state = .suspended → committing s.batch.staging = true →
        exec .sweepResume s = .next (s.ended (.refused .busy)))
      ∧ (w.state = .suspended → committing s.batch.staging = false →
        exec .sweepResume s = .next ((engine .running w).ended .done))
      ∧ ((∃ c, w.state = .suspending c) → exec .sweepCancel s = .next ((engine (.suspending true) w).ended .done))
      ∧ ((∀ c, w.state ≠ .suspending c) → exec .sweepCancel s = .next ((s.endWalk w .cancelled).ended .done)))

/-- FORCE_DRAIN and CLEAR_ERRORS, with no batch open. (FORCE_DRAIN goes by the state as stored, an item naming the entry or
not, which differ only after storage damage: the model's choice, log 25.) -/
def Obligations.ForcesDrainAndClearsErrors : Prop :=
  ∀ s : State, Commanded s → NoOpenBatch s →
    let index := operandByte s 0 + 256 * operandByte s 1
    (4095 < index → exec .forceDrain s = .next (s.ended (.refused .badOperand)))
    ∧ (∀ i : EntryIx, i.val = index → (∀ p, (s.entry i).contents ≠ .revoking p) →
      exec .forceDrain s = .next (s.ended (.refused .notRevoking)))
    ∧ (∀ (i : EntryIx) p, i.val = index → (s.entry i).contents = .revoking p →
      exec .forceDrain s = .next (State.ended (settle s { s.endDrain i with
        errors := { s.errors with events := s.errors.events ||| 0b00100#5 } }) .done))
    ∧ exec .clearErrors s = .next (State.ended { s with errors := { s.errors with first := none, next := 0#9 } } .done)

/-- DOMAIN_SET, REQUESTER_SET and REQUESTER_RESET, with no batch open. (REQUESTER_SET's operands are tested before BUSY, log
22.) -/
def Obligations.RequesterCommands : Prop :=
  ∀ s : State, Commanded s → NoOpenBatch s →
    let b (k : Fin 12) := operandByte s k
    let record (r : ReqId) (x : Requester) : State :=
      { s with requesters := { s.requesters with live := s.requesters.live.set r x } }
    let clears (r : ReqId) (x : Clearing) : State := State.ended (settle s (s.acceptClearing r x)) .busyStarted
    (7 < b 0 ∨ 1 < b 1 → exec .domainSet s = .next (s.ended (.refused .badOperand)))
    ∧ (∀ d : Domain, d.val = b 0 → b 1 ≤ 1 → exec .domainSet s = .next (State.ended { s with
      requesters := { s.requesters with
        domains := s.requesters.domains.set d { s.domainRecord d with pass := decide (b 1 = 0) } } } .done))
    ∧ (15 < b 0 ∨ 2 < b 1 ∨ 7 < b 2 ∨ 64 < b 3 → exec .requesterSet s = .next (s.ended (.refused .badOperand)))
    ∧ (∀ (r : ReqId) (d : Domain) (l : Fin 65), r.val = b 0 → d.val = b 2 → l.val = b 3 →
      (b 1 ≤ 2 → (s.requester r).clearing ≠ none → exec .requesterSet s = .next (s.ended (.refused .busy)))
      ∧ ((s.requester r).clearing = none →
        (b 1 = 0 → exec .requesterSet s = .next (clears r (.toDisabled d l)))
        ∧ (b 1 = 1 → exec .requesterSet s = .next ((record r ⟨.enabled, d, l, 0, none, none⟩).ended .done))
        ∧ (b 1 = 2 → exec .requesterSet s = .next ((record r ⟨.quarantined, d, l, 0,
          some (s.now + quarantineNs s.settings.quarantineTime), none⟩).ended .done))))
    ∧ (15 < b 0 → exec .requesterReset s = .next (s.ended (.refused .badOperand)))
    ∧ (∀ r : ReqId, r.val = b 0 →
      ((s.requester r).clearing ≠ none → exec .requesterReset s = .next (s.ended (.refused .busy)))
      ∧ ((s.requester r).clearing = none → exec .requesterReset s = .next (clears r .toDefaults)))

/-- The READ_ queries, in every phase and with a batch open or not: each writes the result bytes whole and changes nothing
else; READ_ENTRY reads the entry with the parity check, HOST_READ the finder. The bytes of every record: multi-byte fields
least significant byte first, absent fields 0, times left in whole us rounded down. (Two parts are the model's and no rule's:
bits that R182's tables do not name, in the flag, presence and code bytes, read 0, log 24; the time left to a deadline that is
due reads 0, log 19.) -/
def Obligations.QueriesAnswer : Prop :=
  let byte (n : Nat) : Byte := BitVec.ofNat 8 n
  let two (n : Nat) : List Byte := [byte n, byte (n / 256)]
  let three (n : Nat) : List Byte := [byte n, byte (n / 256), byte (n / 65536)]
  let five (a : Address) : List Byte :=
    [a.setWidth 8, a.extractLsb' 8 8, a.extractLsb' 16 8, a.extractLsb' 24 8, a.extractLsb' 32 8]
  let zeros (n : Nat) : List Byte := List.replicate n 0#8
  (∀ (e : GrantEntry) (poisoned : Bool),
    let counts : List Byte := byte e.claimCount.val :: two e.generation.toNat
    let found : Nat := if poisoned then 2 else 0
    let placed (p : Placement) : List Byte := three p.frame.toNat
      ++ [byte ((if p.access = .readWrite then 1 else 0) + (if p.snoop = .direct then 2 else 0)), p.domains]
    (e.contents = .vacant → entryBytes e poisoned = [0#8] ++ zeros 5 ++ counts ++ [byte found])
    ∧ (∀ p, e.contents = .live p → entryBytes e poisoned = [1#8] ++ placed p ++ counts ++ [byte (1 + found)])
    ∧ (∀ p, e.contents = .revoking p → entryBytes e poisoned = [2#8] ++ placed p ++ counts ++ [byte (1 + found)])
    ∧ (e.contents = .poisoned → entryBytes e poisoned = [3#8] ++ zeros 5 ++ counts ++ [byte found]))
  ∧ (∀ (c : Claim) (carrier : Option SlotIx),
    let carried : Byte := match carrier with
      | none => 0#8
      | some k => byte (128 + k.val)
    let held : List Byte := [byte c.requester.val] ++ two c.entry.val ++ two c.generation.toNat
      ++ [if c.dir = .write then 1#8 else 0#8, carried, 1#8]
    claimBytes .free carrier = zeros 7 ++ [carried, 0#8]
    ∧ claimBytes (.active c) carrier = 1#8 :: held ∧ claimBytes (.orphaned c) carrier = 2#8 :: held)
  ∧ (∀ (now deadline : Time) (q : Request) (i : EntryIx) (a : Response),
    let request : List Byte := [byte q.requester.val] ++ five q.address
      ++ [byte ((if q.dir = .write then 1 else 0) + (if q.claim then 2 else 0))] ++ two i.val
    let present : Nat := (if a.place.isSome then 1 else 0) + (if a.generation.isSome then 2 else 0)
      + (if a.tag.isSome then 4 else 0) + (if a.entry.isSome then 8 else 0)
      + (if a.place.map (·.1) = some .direct then 16 else 0)
    let answer : List Byte := [byte (outcomeCode a.verdict), byte (reasonCode a.verdict), byte present]
      ++ (match a.place with
        | none => zeros 5
        | some (_, x) => five x)
      ++ two ((a.generation.map (·.toNat)).getD 0) ++ [byte ((a.tag.map (·.val)).getD 0)]
      ++ two ((a.entry.map (·.val)).getD 0)
    slotBytes now .empty = zeros 27
    ∧ slotBytes now (.waiting q i) = [1#8] ++ request ++ zeros 16 ++ [1#8]
    ∧ slotBytes now (.ready q i a deadline) =
      [2#8] ++ request ++ answer ++ three ((deadline - now) / 1000) ++ [3#8])
  ∧ (∀ (now deadline : Time) (i : EntryIx),
    drainBytes now none = zeros 7
    ∧ drainBytes now (some ⟨i, none⟩) = [1#8] ++ two i.val ++ [1#8] ++ zeros 3
    ∧ drainBytes now (some ⟨i, some deadline⟩) = [1#8] ++ two i.val ++ [0#8] ++ three ((deadline - now) / 1000))
  ∧ (∀ (now : Time) (q : Requester) (d : RequesterDefault),
    let standing : Byte := match q.standing with
      | .disabled => 0#8
      | .enabled => 1#8
      | .quarantined => 2#8
    let clearing : Nat := match q.clearing with
      | none => 0
      | some .toDefaults => 2
      | some (.toDisabled _ _) => 4
    requesterBytes now q d = [standing, byte q.domain.val, byte q.limit.val, byte q.faults.val]
      ++ (match q.deadline with
        | none => byte clearing :: zeros 3
        | some x => byte (1 + clearing) :: three ((x - now) / 1000))
      ++ [if d.enabled then 1#8 else 0#8, byte d.domain.val, byte d.limit.val])
  ∧ (∀ (x : WalkEnd) (d : Domain) (c : SweepCounts) (poisoned cursor : Nat),
    let ending : Byte := match x with
      | .inProgress => 1#8
      | .complete => 2#8
      | .cancelled => 3#8
    sweepBytes none = []
    ∧ sweepBytes (some ⟨x, .domainSweep d c, poisoned, cursor⟩) = [ending, 0#8, byte d.val] ++ two c.changed
      ++ two c.vacated ++ two c.draining ++ [byte c.skipped] ++ two poisoned ++ two cursor ++ [3#8]
    ∧ sweepBytes (some ⟨x, .scrub, poisoned, cursor⟩) =
      [ending, 1#8] ++ zeros 8 ++ two poisoned ++ two cursor ++ [1#8])
  ∧ (∀ (g : Group) (n position : Nat) (t : Tally) (reason : RejectReason) (i : EntryIx),
    let code : Byte := match reason with
      | .notVacant => 1#8
      | .claimed => 2#8
      | .emptySet => 3#8
      | .domainClosing => 4#8
      | .notLive => 5#8
      | .noFields => 6#8
      | .drainFull => 7#8
      | .protectedGroup => 8#8
    commitBytes .none = []
    ∧ commitBytes (.inProgress g n) = [1#8, byte g.val, byte n] ++ zeros 9 ++ [0b00011#8]
    ∧ commitBytes (.ok g n t) = [2#8, byte g.val, byte n] ++ zeros 4
      ++ [byte t.installed, byte t.amended, byte t.vacated, byte t.draining, byte t.passed] ++ [0b10011#8]
    ∧ commitBytes (.rejected g n reason i position) =
      [3#8, byte g.val, byte n, code] ++ two i.val ++ [byte position] ++ zeros 5 ++ [0b01111#8]
    ∧ commitBytes (.protectedGroup g) = [4#8, byte g.val, 0#8, 8#8] ++ zeros 8 ++ [0b00101#8]
    ∧ commitBytes (.abandoned g n) = [5#8, byte g.val, byte n] ++ zeros 9 ++ [0b00011#8])
  ∧ (∀ (t : Tag) (s : State),
    (s.carrier t = none ↔ ∀ k : SlotIx, slotTag s.queue[k] ≠ some t)
    ∧ ∀ k, s.carrier t = some k → slotTag s.queue[k] = some t)
  ∧ ∀ s : State, s.writesAt 0x5C#7 = true →
    let b0 := operandByte s 0
    let answered (o : Host.Outcome State Fault Refusal) (u : State) (bytes : List Byte) : Prop :=
      ∃ results, o = .next (State.ended { u with mgmt := { u.mgmt with results := results } } .done)
        ∧ ∀ k : Fin 32, results[k] = bytes.getD k.val 0#8
    let bad : Host.Outcome State Fault Refusal := .next (s.ended (.refused .badOperand))
    (4095 < b0 + 256 * operandByte s 1 → exec .readEntry s = bad)
    ∧ (∀ i : EntryIx, i.val = b0 + 256 * operandByte s 1 →
      let u := s.readEntry .hostRead i
      answered (exec .readEntry s) (settle s u) (entryBytes (u.entry i) (s.readFails i)))
    ∧ (63 < b0 → exec .readClaim s = bad)
    ∧ (∀ t : Tag, t.val = b0 → answered (exec .readClaim s) s (claimBytes s.claims[t] (s.carrier t)))
    ∧ (7 < b0 → exec .readPending s = bad)
    ∧ (∀ k : SlotIx, k.val = b0 → answered (exec .readPending s) s (slotBytes s.now s.queue[k]))
    ∧ (15 < b0 → exec .readDrain s = bad)
    ∧ (b0 ≤ 15 → answered (exec .readDrain s) s (drainBytes s.now s.drain[b0]?))
    ∧ (15 < b0 → exec .readRequester s = bad)
    ∧ (∀ r : ReqId, r.val = b0 →
      answered (exec .readRequester s) s (requesterBytes s.now (s.requester r) s.requesters.defaults[r]))
    ∧ answered (exec .readSweepResult s) s (sweepBytes s.sweep.result)
    ∧ answered (exec .readCommitResult s) s (commitBytes s.batch.result)

/-! ### The register window -/

/-- A byte read at the pointer: the pointer advances; the event register's flags become CLEAR as they are read; a multi-byte
value is captured at its lowest byte, and its higher bytes come from the capture of the transaction, if there is one (log 10,
log 14). The byte counts as read whether or not the master acknowledges it; after a not-acknowledge, which SPI has not, the part
sends no more. What each address of the window shows: every status byte, the First Error detail of each kind, the settings as
latched, operands, command status and results; an unlisted address reads 0, and so do the bits the spec does not name (log
24). -/
def Obligations.BytesAreRead : Prop :=
  (∀ s : State,
    let at' (a : Nat) : Byte := s.plainByte a
    let byte (n : Nat) : Byte := BitVec.ofNat 8 n
    let stage : Nat × Nat × Nat × Nat := match s.batch.staging with
      | .idle => (0, 0, 0, 0)
      | .loading g n ops => (1, g.val, n, ops.length)
      | .loaded g n ops => (2, g.val, n, ops.length)
      | .committing g n ops _ _ _ => (3, g.val, n, ops.length)
    let abort : Nat := match s.batch.abort with
      | none => 0
      | some .count => 4 + 8 * 1
      | some .outside => 4 + 8 * 2
      | some .overflow => 4 + 8 * 3
      | some .short => 4 + 8 * 4
      | some .interrupted => 4 + 8 * 5
      | some .duplicate => 4 + 8 * 6
    let engine : Nat := match s.sweep.walk with
      | none => 0
      | some w => (match w.state with
          | .running => 1
          | .waitingDrain => 2
          | .suspending false => 3
          | .suspending true => 128 + 3
          | .suspended => 4)
        + (match w.kind with
          | .domainSweep d => 16 * d.val
          | .scrub => 8)
    at' 0x00 = 0x60#8 ∧ at' 0x01 = 0x41#8 ∧ at' 0x02 = 0x01#8
    ∧ at' 0x03 = byte ((match s.loader.phase with
        | .loading => 1
        | .reloading => 2
        | .running => 3) + (if s.errors.first = none then 0 else 128))
    ∧ (∀ k : Fin 8, (at' 0x04).getLsbD k.val =
        [s.loader.flags.headerFail, s.loader.flags.controlFallback, s.loader.flags.controlSkipped,
          s.loader.flags.requesterSkipped, s.loader.flags.preloadSkipped, s.loader.flags.freezeSkipped].getD k.val false)
    ∧ at' 0x05 = byte (stage.1 + abort) ∧ at' 0x06 = byte stage.2.1 ∧ at' 0x07 = byte stage.2.2.1
    ∧ at' 0x08 = byte stage.2.2.2
    ∧ at' 0x09 = byte ((List.finRange 64).countP (fun t => decide (s.claims[t] = .free)))
    ∧ at' 0x0A = byte ((List.finRange 8).countP (fun k => decide (s.queue[k] = .empty)))
    ∧ at' 0x0B = byte s.drain.length
    ∧ (∀ d : Domain, (at' 0x0C).getLsbD d.val = (s.domainRecord d).closing
        ∧ (at' 0x0D).getLsbD d.val = (s.domainRecord d).pass)
    ∧ at' 0x0E = byte engine
    ∧ at' 0x11 = byte ((List.range 128).countP (fun g => s.freeze.marks.getLsbD g))
    ∧ at' 0x12 = byte ((if s.freeze.range = none then 0 else 1) + (if s.freeze.rangeUsed then 2 else 0))
    ∧ (s.freeze.range = none → at' 0x13 = 0#8 ∧ at' 0x14 = 0#8)
    ∧ (∀ x, s.freeze.range = some x → at' 0x13 = byte x.lower.val ∧ at' 0x14 = byte x.upper.val)
    ∧ at' 0x38 = byte ((if s.errors.alertAsserted then 1 else 0) + (if s.errors.override then 2 else 0))
    ∧ at' 0x39 = s.errors.events.setWidth 8 ∧ at' 0x3A = s.settings.enables.setWidth 8
    ∧ at' 0x40 = (if s.store.pageSize = .k64 then 1#8 else 0#8)
    ∧ at' 0x46 = (if s.settings.snoop = .direct then 1#8 else 0#8)
    ∧ discardTimeOfCode (at' 0x47).toNat = some s.settings.discardTime
    ∧ drainTimeOfCode (at' 0x48).toNat = some s.settings.drainTime
    ∧ quarantineTimeOfCode (at' 0x49).toNat = some s.settings.quarantineTime
    ∧ at' 0x4A = s.settings.threshold.setWidth 8 ∧ at' 0x4B = s.settings.masks.setWidth 8
    ∧ at' 0x4D ++ at' 0x4C = s.settings.routeInt.setWidth 16 ∧ at' 0x4F ++ at' 0x4E = s.settings.routeAlert.setWidth 16
    ∧ (∀ k : Fin 12, at' (0x50 + k.val) = s.mgmt.operands[k]) ∧ at' 0x5C = 0#8
    ∧ at' 0x5D = (match s.mgmt.status with
        | .none => 0#8
        | .done => 1#8
        | .refused => 2#8
        | .busyStarted => 3#8)
    ∧ at' 0x5E = (match s.mgmt.reason with
        | none => 0#8
        | some .busy => 1#8
        | some .badOperand => 2#8
        | some .noBatch => 3#8
        | some .notRunning => 4#8
        | some .notSuspended => 5#8
        | some .notRevoking => 6#8
        | some .inRange => 7#8
        | some .alreadySet => 8#8
        | some .starting => 9#8)
    ∧ (∀ k : Fin 32, at' (0x60 + k.val) = s.mgmt.results[k])
    ∧ (∀ a, (0x25 ≤ a ∧ a < 0x30) ∨ (0x3B ≤ a ∧ a < 0x40) ∨ a = 0x5F → at' a = 0#8))
  ∧ ((∀ k < 2, capturedAt (0x0F + k) = some (.cursor, k) ∧ capturedAt (0x36 + k) = some (.nextErrors, k))
    ∧ (∀ k < 16, capturedAt (0x15 + k) = some (.freezeMarks, k)) ∧ (∀ k < 6, capturedAt (0x30 + k) = some (.firstError, k))
    ∧ (∀ k < 5, capturedAt (0x41 + k) = some (.base, k))
    ∧ (∀ a, a < 0x0F ∨ (0x11 ≤ a ∧ a < 0x15) ∨ (0x25 ≤ a ∧ a < 0x30) ∨ (0x38 ≤ a ∧ a < 0x41) ∨ 0x46 ≤ a →
      capturedAt a = none))
  ∧ (∀ (c : Captures) (v : CapturedValue) (s : State),
    capturedIn Captures.none v = none ∧ capturedIn (captureIn c v (s.standing v)) v = some (s.standing v)
    ∧ ∀ w, w ≠ v → capturedIn (captureIn c v (s.standing v)) w = capturedIn c w)
  ∧ (∀ s : State,
    let finder (f : Finder) : Nat := match f with
      | .resolve => 1
      | .commit => 2
      | .sweep => 3
      | .scrub => 4
      | .hostRead => 5
    let part (x : ImageItem) : Nat := match x with
      | .header => 1
      | .control => 2
      | .requester => 3
      | .preload => 4
      | .freeze => 5
    let fault (k : FaultKind) : Nat := match k with
      | .domain => 1
      | .access => 2
      | .claimLimit => 3
      | .vacant => 4
      | .unknownTag => 5
      | .foreignTag => 6
      | .discard => 7
    let abort (x : AbortReason) : Nat := match x with
      | .count => 1
      | .outside => 2
      | .overflow => 3
      | .short => 4
      | .interrupted => 5
      | .duplicate => 6
    let reject (x : RejectReason) : Nat := match x with
      | .notVacant => 1
      | .claimed => 2
      | .emptySet => 3
      | .domainClosing => 4
      | .notLive => 5
      | .noFields => 6
      | .drainFull => 7
      | .protectedGroup => 8
    let shows (e : ErrorRecord) (kind first second entry present : Nat) : Prop := s.errors.first = some e →
      s.standing .firstError = kind + 2 ^ 8 * first + 2 ^ 16 * second + 2 ^ 24 * entry + 2 ^ 40 * present
    s.standing .cursor = (match s.sweep.walk with
      | none => 0
      | some w => w.cursor.val)
    ∧ s.standing .freezeMarks = s.freeze.marks.toNat ∧ s.standing .nextErrors = s.errors.next.toNat
    ∧ s.standing .base = s.store.base.toNat
    ∧ (s.errors.first = none → s.standing .firstError = 0)
    ∧ (∀ i f, shows (.parity i f) 1 0 (finder f) i.val 0b110)
    ∧ (∀ r k, shows (.discard r k) 2 r.val k.val 0 0b011)
    ∧ (∀ i n, n < 256 → shows (.drainExpired i n) 3 0 n i.val 0b110)
    ∧ (∀ x, shows (.batchAbort x) 4 (abort x) 0 0 0b001)
    ∧ (∀ x i, shows (.commitReject x (some i)) 5 (reject x) 0 i.val 0b101)
    ∧ (∀ x, shows (.commitReject x none) 5 (reject x) 0 0 0b001)
    ∧ (∀ r k, shows (.requesterFault r k) 6 r.val (fault k) 0 0b011)
    ∧ (∀ r, shows (.quarantine r) 7 r.val 0 0 0b001)
    ∧ (∀ k, shows (.portProtocol k) 8 k.toNat 0 0 0b001)
    ∧ (∀ x n, n < 256 → shows (.image x (some n)) 9 (part x) n 0 0b011)
    ∧ (∀ x, shows (.image x none) 9 (part x) 0 0 0b001))
  ∧ ∀ (b : ReadBus) (s : State), s.readable (busOf b) = true →
    let p := s.mgmt.pointer
    let on : Transaction := match b with
      | .i2c _ false => .stopped
      | _ => .reading
    let sent (x : Byte) (c : Captures) (events : BitVec 5) : State := { s with
      mgmt := { s.mgmt with transaction := on, captures := c, sent := some x, pointer := p + 1#7 }
      errors := { s.errors with events := events } }
    (p = 0x39#7 → exec (.eventRegisterRead b) s =
        .next (sent (s.errors.events.setWidth 8) s.mgmt.captures 0#5)
      ∧ exec (.multiByteCaptureRead b) s = exec (.eventRegisterRead b) s)
    ∧ (∀ v, capturedAt p.toNat = some (v, 0) → exec (.multiByteCaptureRead b) s =
        .next (sent (BitVec.ofNat 8 (s.standing v)) (captureIn s.mgmt.captures v (s.standing v)) s.errors.events))
    ∧ (∀ v k n, capturedAt p.toNat = some (v, k + 1) → capturedIn s.mgmt.captures v = some n →
        exec (.multiByteCaptureRead b) s =
          .next (sent (BitVec.ofNat 8 (n / 256 ^ (k + 1))) s.mgmt.captures s.errors.events))
    ∧ (∀ v k, capturedAt p.toNat = some (v, k + 1) → capturedIn s.mgmt.captures v = none →
        exec (.multiByteCaptureRead b) s =
          .next (sent (BitVec.ofNat 8 (s.standing v / 256 ^ (k + 1))) s.mgmt.captures s.errors.events))
    ∧ (p ≠ 0x39#7 → capturedAt p.toNat = none → exec (.multiByteCaptureRead b) s =
        .next (sent (s.plainByte p.toNat) s.mgmt.captures s.errors.events))

/-- The ALERT control byte, written in every phase: bit 0 clears ALERT_ASSERTED, bit 1 clears the override, bit 2 sets it,
both leave it; ALERT_ASSERTED is never set by a write; nothing else of the Error Unit changes. (Each of the three rows carries
the whole byte, log 11; bits 3 to 7 have no effect, log 24.) -/
def Obligations.AlertControlWritten : Prop :=
  ∀ (v : Byte) (s : State), s.writesAt 0x38#7 = true →
    let u : State := { s with
      errors := { s.errors with
        alertAsserted := if v.getLsbD 0 then false else s.errors.alertAsserted
        override :=
          if v.getLsbD 1 && v.getLsbD 2 then s.errors.override
          else if v.getLsbD 1 then false
          else if v.getLsbD 2 then true
          else s.errors.override }
      mgmt := { s.mgmt with pointer := 0x39#7, sent := none } }
    (v.getLsbD 0 = true → exec (.alertAssertedClear v) s = .next u)
    ∧ (v.getLsbD 1 = true → exec (.overrideClear v) s = .next u)
    ∧ (v.getLsbD 2 = true → exec (.overrideSet v) s = .next u)
    ∧ (∀ b, s.selects b = true → exec (.registerWrite b v) s = .next u)

/-- Setting writes: ignored in LOADING; a defined code latches, an undefined one is ignored as a whole; a two-byte setting's
lower byte goes to its shadow and its higher byte latches the whole; an ignored latch re-makes the shadow (log 10).
REGISTER_WRITE at a setting's address is that setting's write. The codes of the settings, and the times in ns. -/
def Obligations.SettingsWritten : Prop :=
  (snoopOfCode 0 = some .snooped ∧ snoopOfCode 1 = some .direct
    ∧ discardTimeOfCode 0 = some .us16 ∧ discardTimeOfCode 1 = some .us64 ∧ discardTimeOfCode 2 = some .us256
    ∧ discardTimeOfCode 3 = some .us1024
    ∧ drainTimeOfCode 0 = some .ms1 ∧ drainTimeOfCode 1 = some .ms4 ∧ drainTimeOfCode 2 = some .ms16
    ∧ drainTimeOfCode 3 = some .ms64 ∧ drainTimeOfCode 4 = some .unlimited
    ∧ quarantineTimeOfCode 0 = some .ms1 ∧ quarantineTimeOfCode 1 = some .ms10 ∧ quarantineTimeOfCode 2 = some .ms100
    ∧ quarantineTimeOfCode 3 = some .ms1000
    ∧ (∀ n, 1 < n → snoopOfCode n = none) ∧ (∀ n, 3 < n → discardTimeOfCode n = none ∧ quarantineTimeOfCode n = none)
    ∧ (∀ n, 4 < n → drainTimeOfCode n = none)
    ∧ discardNs .us16 = 16 * 10 ^ 3 ∧ discardNs .us64 = 64 * 10 ^ 3 ∧ discardNs .us256 = 256 * 10 ^ 3
    ∧ discardNs .us1024 = 1024 * 10 ^ 3
    ∧ drainNs .ms1 = some (10 ^ 6) ∧ drainNs .ms4 = some (4 * 10 ^ 6) ∧ drainNs .ms16 = some (16 * 10 ^ 6)
    ∧ drainNs .ms64 = some (64 * 10 ^ 6) ∧ drainNs .unlimited = none
    ∧ quarantineNs .ms1 = 10 ^ 6 ∧ quarantineNs .ms10 = 10 * 10 ^ 6 ∧ quarantineNs .ms100 = 100 * 10 ^ 6
    ∧ quarantineNs .ms1000 = 1000 * 10 ^ 6)
  ∧ (∀ (b : Bus) (v : Byte) (s : State), s.selects b = true → s.mgmt.transaction = .writing →
    let p := s.mgmt.pointer.toNat
    (p = 0x3A ∨ (0x46 ≤ p ∧ p ≤ 0x4B) → exec (.registerWrite b v) s = exec (.singleByteSettingWrite v) s)
    ∧ (p = 0x4C ∨ p = 0x4E → exec (.registerWrite b v) s = exec (.settingLowerByteWrite v) s)
    ∧ (p = 0x4D ∨ p = 0x4F → exec (.registerWrite b v) s = exec (.settingHigherByteWrite v) s))
  ∧ ∀ (v : Byte) (s : State), s.mgmt.transaction = .writing →
    let p := s.mgmt.pointer.toNat
    let taken (st : Settings) : State := { s with
      settings := if s.loader.phase = .loading then s.settings else st
      mgmt := { s.mgmt with pointer := s.mgmt.pointer + 1#7, sent := none } }
    let whole (lo : Byte) := 256 * v.toNat + lo.toNat
    let one := exec (.singleByteSettingWrite v) s
    let higher := exec (.settingHigherByteWrite v) s
    (p = 0x46 → ∀ x, snoopOfCode v.toNat = some x → one = .next (taken { s.settings with snoop := x }))
    ∧ (p = 0x47 → ∀ x, discardTimeOfCode v.toNat = some x → one = .next (taken { s.settings with discardTime := x }))
    ∧ (p = 0x48 → ∀ x, drainTimeOfCode v.toNat = some x → one = .next (taken { s.settings with drainTime := x }))
    ∧ (p = 0x49 → ∀ x, quarantineTimeOfCode v.toNat = some x →
        one = .next (taken { s.settings with quarantineTime := x }))
    ∧ (p = 0x4A → v.toNat < 16 → one = .next (taken { s.settings with threshold := v.setWidth 4 }))
    ∧ (p = 0x4B → v.toNat < 128 → one = .next (taken { s.settings with masks := v.setWidth 7 }))
    ∧ (p = 0x3A → v.toNat < 32 → one = .next (taken { s.settings with enables := v.setWidth 5 }))
    ∧ ((p = 0x46 ∧ 1 < v.toNat) ∨ (p = 0x47 ∧ 3 < v.toNat) ∨ (p = 0x48 ∧ 4 < v.toNat) ∨ (p = 0x49 ∧ 3 < v.toNat)
        ∨ (p = 0x4A ∧ 15 < v.toNat) ∨ (p = 0x4B ∧ 127 < v.toNat) ∨ (p = 0x3A ∧ 31 < v.toNat) →
        one = .next (taken s.settings))
    ∧ (p = 0x4C → exec (.settingLowerByteWrite v) s = .next (taken { s.settings with shadowInt := v }))
    ∧ (p = 0x4E → exec (.settingLowerByteWrite v) s = .next (taken { s.settings with shadowAlert := v }))
    ∧ (p = 0x4D → v.toNat < 2 → higher =
        .next (taken { s.settings with routeInt := BitVec.ofNat 9 (whole s.settings.shadowInt) }))
    ∧ (p = 0x4F → v.toNat < 2 → higher =
        .next (taken { s.settings with routeAlert := BitVec.ofNat 9 (whole s.settings.shadowAlert) }))
    ∧ (p = 0x4D → 2 ≤ v.toNat → higher =
        .next (taken { s.settings with shadowInt := s.settings.routeInt.setWidth 8 }))
    ∧ (p = 0x4F → 2 ≤ v.toNat → higher =
        .next (taken { s.settings with shadowAlert := s.settings.routeAlert.setWidth 8 }))

/-- Transactions: a byte is the part's on SPI in SPI mode, and on I2C in I2C mode with its device address; any other changes
nothing. On I2C the part acknowledges its own address and every byte written to it. The part sends in a read and at the start of
an I2C one, not after the master's not-acknowledge until a stop or a start condition. The first byte sets the pointer (bit 7 is
SPI's read flag); a further byte of a write is written at the pointer, an operand byte kept as it arrives, a byte to a read-only
or unlisted address ignored; the end of a transaction drops its captures (log 10, log 18). The op that BATCH_LOAD's operand bytes
spell (bits 2 to 7 of operand byte 7 ignored, log 21). -/
def Obligations.TransactionsRun : Prop :=
  (∀ s : State,
    (s.selects .spi = true ↔ s.mgmt.mode = .spi)
    ∧ (∀ d, s.selects (.i2c d) = true ↔ s.mgmt.mode = .i2c ∧ d = s.mgmt.device)
    ∧ (∀ d, s.acknowledges (.i2c d) = true ↔ s.mgmt.mode = .i2c ∧ d = s.mgmt.device) ∧ s.acknowledges .spi = false
    ∧ busOf .spi = .spi ∧ (∀ d ack, busOf (.i2c d ack) = .i2c d)
    ∧ (∀ b v, s.selects b = false → exec (.pointerSet b v) s = .next s ∧ exec (.registerWrite b v) s = .next s)
    ∧ (∀ b, s.selects (busOf b) = false →
      exec (.multiByteCaptureRead b) s = .next s ∧ exec (.eventRegisterRead b) s = .next s)
    ∧ (∀ x, x ≠ s.mgmt.mode → exec (.transactionEnd x) s = .next s)
    ∧ (∀ b v, (s.mgmt.transaction ≠ .none → exec (.pointerSet b v) s = .next s)
      ∧ (s.mgmt.transaction ≠ .writing → exec (.registerWrite b v) s = .next s))
    ∧ (∀ b, s.readable b = true ↔ s.selects b = true
      ∧ (s.mgmt.transaction = .reading ∨ (s.mgmt.transaction = .none ∧ s.mgmt.mode = .i2c)))
    ∧ (∀ b, s.readable (busOf b) = false →
      exec (.multiByteCaptureRead b) s = .next s ∧ exec (.eventRegisterRead b) s = .next s))
  ∧ (∀ s : State,
    let o := s.mgmt.operands
    let index := o[2].toNat + 256 * o[3].toNat
    let access : Access := if o[7].getLsbD 0 then .readWrite else .readOnly
    let snoop : Snoop := if o[7].getLsbD 1 then .direct else .snooped
    (∀ k : Fin 12, operandByte s k = o[k].toNat)
    ∧ (4095 < index ∨ o[0] = 0#8 ∨ 3#8 < o[0] ∨ (o[0] = 3#8 ∧ o[1].getLsbD 0 = true) → operandOp s = none)
    ∧ (∀ i : EntryIx, i.val = index →
      (o[0] = 1#8 →
        operandOp s = some (.install i ⟨o[6] ++ o[5] ++ o[4], access, snoop, o[8]⟩ (o[1].getLsbD 0)))
      ∧ (o[0] = 2#8 → operandOp s = some (.amend i (if o[1].getLsbD 1 then some access else none)
          (if o[1].getLsbD 2 then some snoop else none) (if o[1].getLsbD 3 then some o[8] else none) (o[1].getLsbD 0)))
      ∧ (o[0] = 3#8 → o[1].getLsbD 0 = false → operandOp s = some (.revoke i))))
  ∧ ∀ (b : Bus) (v : Byte) (s : State), s.selects b = true →
    let begun (x : Transaction) (sent : Option Byte) : State := { s with
      mgmt := { s.mgmt with pointer := v.setWidth 7, captures := Captures.none, transaction := x, sent := sent } }
    let p := s.mgmt.pointer.toNat
    let after (m : ManagementPort) : State := { s with mgmt := { m with pointer := m.pointer + 1#7, sent := none } }
    (s.mgmt.transaction = .none → s.mgmt.mode = .i2c → exec (.pointerSet b v) s = .next (begun .writing none))
    ∧ (s.mgmt.transaction = .none → s.mgmt.mode = .spi → exec (.pointerSet b v) s =
        .next (begun (if v.getLsbD 7 then .reading else .writing) (some 0#8)))
    ∧ (∀ k : Fin 12, s.mgmt.transaction = .writing → p = 0x50 + k.val →
        exec (.registerWrite b v) s = .next (after { s.mgmt with operands := s.mgmt.operands.set k v }))
    ∧ (s.mgmt.transaction = .writing → p < 0x38 ∨ p = 0x39 ∨ (0x3B ≤ p ∧ p < 0x46) ∨ 0x5C < p →
        exec (.registerWrite b v) s = .next (after s.mgmt))
    ∧ exec (.transactionEnd s.mgmt.mode) s = .next { s with
        mgmt := { s.mgmt with transaction := .none, captures := Captures.none, sent := none } }

/-- Storage damage changes what is stored for one entry and nothing else; no block notices until it reads the entry (log 8). -/
def Obligations.StorageIsDamaged : Prop :=
  ∀ (i : EntryIx) (e : GrantEntry) (s : State), Canonical s →
    ∃ t, exec (.storageDamage i e) s = .next t
      ∧ t = { s with store := { s.store with entries := t.store.entries } }
      ∧ t.entry i = e ∧ ∀ j, j ≠ i → t.entry j = s.entry j

/-! ### Invariants -/

/-- Every step keeps the Grant Table's canonical form. -/
def Obligations.TableStaysCanonical : Prop := ∀ s t : State, Canonical s → step s = .next t → Canonical t

/-- Every step keeps the lock law and the laws of the occupied slots. -/
def Obligations.LockLawHolds : Prop := ∀ s t : State, LockLaw s → step s = .next t → LockLaw t

/-- Every step keeps the groups of the Freeze Range frozen, and keeps the CLOSING law. -/
def Obligations.FreezeAndClosingLawsHold : Prop :=
  (∀ s t : State, FreezeLaw s → step s = .next t → FreezeLaw t)
  ∧ ∀ s t : State, ClosingLaw s → step s = .next t → ClosingLaw t

/-- Every step keeps the walk's laws. -/
def Obligations.WalkLawHolds : Prop := ∀ s t : State, WalkLaw s → step s = .next t → WalkLaw t

/-- Every step keeps the Staging Buffer's laws. -/
def Obligations.StagingLawHolds : Prop := ∀ s t : State, StagingLaw s → step s = .next t → StagingLaw t

/-- Every step keeps the law of carried tags. -/
def Obligations.CarriedLawHolds : Prop := ∀ s t : State, CarriedLaw s → step s = .next t → CarriedLaw t

/-- Every step that is no storage damage keeps each claim count equal to the number of ACTIVE records on the entry. -/
def Obligations.CountLawHolds : Prop := ∀ s t : State, CountLaw s → ¬ DamageNext s → step s = .next t → CountLaw t

/-- Every step keeps the law that no record in use names a DISABLED requester. -/
def Obligations.DisabledLawHolds : Prop := ∀ s t : State, DisabledLaw s → step s = .next t → DisabledLaw t

/-- Time never passes a deadline that stands (the model's time, log 2), and the Drain List has at most 16 items. Every step
that is no storage damage keeps the Drain List's law: an entry is REVOKING exactly while an item names it, and no two items
name one entry. -/
def Obligations.NoDeadlineIsOverrun : Prop :=
  (∀ s t : State, DeadlineLaw s → step s = .next t → DeadlineLaw t)
  ∧ ∀ s t : State, StagingLaw s → WalkLaw s → DrainLaw s → ¬ DamageNext s → step s = .next t → DrainLaw t

/-- Every invariant holds right after power-on. -/
def Obligations.InvariantsHoldAtReset : Prop :=
  Canonical State.reset ∧ LockLaw State.reset ∧ FreezeLaw State.reset ∧ ClosingLaw State.reset ∧ WalkLaw State.reset
  ∧ StagingLaw State.reset ∧ CarriedLaw State.reset ∧ CountLaw State.reset ∧ DisabledLaw State.reset
  ∧ DeadlineLaw State.reset ∧ DrainLaw State.reset
end

