-- ==== Sys2Proof/Laws/State.lean ====
section
/-! SUPPORT. One lemma per field of State per update: what the named updates of one field do to each field. All hold by
computation. -/

namespace Sys2Proof.Machine.State

/-! ### report -/

@[simp] theorem report_store (x : ErrorRecord) (s : State) : (s.report x).store = s.store := rfl
@[simp] theorem report_port (x : ErrorRecord) (s : State) : (s.report x).port = s.port := rfl
@[simp] theorem report_requesters (x : ErrorRecord) (s : State) : (s.report x).requesters = s.requesters := rfl
@[simp] theorem report_claims (x : ErrorRecord) (s : State) : (s.report x).claims = s.claims := rfl
@[simp] theorem report_queue (x : ErrorRecord) (s : State) : (s.report x).queue = s.queue := rfl
@[simp] theorem report_batch (x : ErrorRecord) (s : State) : (s.report x).batch = s.batch := rfl
@[simp] theorem report_drain (x : ErrorRecord) (s : State) : (s.report x).drain = s.drain := rfl
@[simp] theorem report_freeze (x : ErrorRecord) (s : State) : (s.report x).freeze = s.freeze := rfl
@[simp] theorem report_sweep (x : ErrorRecord) (s : State) : (s.report x).sweep = s.sweep := rfl
@[simp] theorem report_errors (x : ErrorRecord) (s : State) : (s.report x).errors = recordError s.settings x s.errors := rfl
@[simp] theorem report_settings (x : ErrorRecord) (s : State) : (s.report x).settings = s.settings := rfl
@[simp] theorem report_mgmt (x : ErrorRecord) (s : State) : (s.report x).mgmt = s.mgmt := rfl
@[simp] theorem report_loader (x : ErrorRecord) (s : State) : (s.report x).loader = s.loader := rfl
@[simp] theorem report_board (x : ErrorRecord) (s : State) : (s.report x).board = s.board := rfl
@[simp] theorem report_resetLow (x : ErrorRecord) (s : State) : (s.report x).resetLow = s.resetLow := rfl
@[simp] theorem report_loads (x : ErrorRecord) (s : State) : (s.report x).loads = s.loads := rfl
@[simp] theorem report_now (x : ErrorRecord) (s : State) : (s.report x).now = s.now := rfl
@[simp] theorem report_free (x : ErrorRecord) (s : State) : (s.report x).free = s.free := rfl
@[simp] theorem report_pending (x : ErrorRecord) (s : State) : (s.report x).pending = s.pending := rfl

/-! ### raise -/

@[simp] theorem raise_store (x : EventKind) (s : State) : (s.raise x).store = s.store := rfl
@[simp] theorem raise_port (x : EventKind) (s : State) : (s.raise x).port = s.port := rfl
@[simp] theorem raise_requesters (x : EventKind) (s : State) : (s.raise x).requesters = s.requesters := rfl
@[simp] theorem raise_claims (x : EventKind) (s : State) : (s.raise x).claims = s.claims := rfl
@[simp] theorem raise_queue (x : EventKind) (s : State) : (s.raise x).queue = s.queue := rfl
@[simp] theorem raise_batch (x : EventKind) (s : State) : (s.raise x).batch = s.batch := rfl
@[simp] theorem raise_drain (x : EventKind) (s : State) : (s.raise x).drain = s.drain := rfl
@[simp] theorem raise_freeze (x : EventKind) (s : State) : (s.raise x).freeze = s.freeze := rfl
@[simp] theorem raise_sweep (x : EventKind) (s : State) : (s.raise x).sweep = s.sweep := rfl
@[simp] theorem raise_errors (x : EventKind) (s : State) : (s.raise x).errors = raiseEvent x s.errors := rfl
@[simp] theorem raise_settings (x : EventKind) (s : State) : (s.raise x).settings = s.settings := rfl
@[simp] theorem raise_mgmt (x : EventKind) (s : State) : (s.raise x).mgmt = s.mgmt := rfl
@[simp] theorem raise_loader (x : EventKind) (s : State) : (s.raise x).loader = s.loader := rfl
@[simp] theorem raise_board (x : EventKind) (s : State) : (s.raise x).board = s.board := rfl
@[simp] theorem raise_resetLow (x : EventKind) (s : State) : (s.raise x).resetLow = s.resetLow := rfl
@[simp] theorem raise_loads (x : EventKind) (s : State) : (s.raise x).loads = s.loads := rfl
@[simp] theorem raise_now (x : EventKind) (s : State) : (s.raise x).now = s.now := rfl
@[simp] theorem raise_free (x : EventKind) (s : State) : (s.raise x).free = s.free := rfl
@[simp] theorem raise_pending (x : EventKind) (s : State) : (s.raise x).pending = s.pending := rfl

/-! ### putEntry -/

@[simp] theorem putEntry_store (i : EntryIx) (x : GrantEntry) (s : State) : (s.putEntry i x).store = { s.store with entries := Table.put s.store.entries i.val x } := rfl
@[simp] theorem putEntry_port (i : EntryIx) (x : GrantEntry) (s : State) : (s.putEntry i x).port = s.port := rfl
@[simp] theorem putEntry_requesters (i : EntryIx) (x : GrantEntry) (s : State) : (s.putEntry i x).requesters = s.requesters := rfl
@[simp] theorem putEntry_claims (i : EntryIx) (x : GrantEntry) (s : State) : (s.putEntry i x).claims = s.claims := rfl
@[simp] theorem putEntry_queue (i : EntryIx) (x : GrantEntry) (s : State) : (s.putEntry i x).queue = s.queue := rfl
@[simp] theorem putEntry_batch (i : EntryIx) (x : GrantEntry) (s : State) : (s.putEntry i x).batch = s.batch := rfl
@[simp] theorem putEntry_drain (i : EntryIx) (x : GrantEntry) (s : State) : (s.putEntry i x).drain = s.drain := rfl
@[simp] theorem putEntry_freeze (i : EntryIx) (x : GrantEntry) (s : State) : (s.putEntry i x).freeze = s.freeze := rfl
@[simp] theorem putEntry_sweep (i : EntryIx) (x : GrantEntry) (s : State) : (s.putEntry i x).sweep = s.sweep := rfl
@[simp] theorem putEntry_errors (i : EntryIx) (x : GrantEntry) (s : State) : (s.putEntry i x).errors = s.errors := rfl
@[simp] theorem putEntry_settings (i : EntryIx) (x : GrantEntry) (s : State) : (s.putEntry i x).settings = s.settings := rfl
@[simp] theorem putEntry_mgmt (i : EntryIx) (x : GrantEntry) (s : State) : (s.putEntry i x).mgmt = s.mgmt := rfl
@[simp] theorem putEntry_loader (i : EntryIx) (x : GrantEntry) (s : State) : (s.putEntry i x).loader = s.loader := rfl
@[simp] theorem putEntry_board (i : EntryIx) (x : GrantEntry) (s : State) : (s.putEntry i x).board = s.board := rfl
@[simp] theorem putEntry_resetLow (i : EntryIx) (x : GrantEntry) (s : State) : (s.putEntry i x).resetLow = s.resetLow := rfl
@[simp] theorem putEntry_loads (i : EntryIx) (x : GrantEntry) (s : State) : (s.putEntry i x).loads = s.loads := rfl
@[simp] theorem putEntry_now (i : EntryIx) (x : GrantEntry) (s : State) : (s.putEntry i x).now = s.now := rfl
@[simp] theorem putEntry_free (i : EntryIx) (x : GrantEntry) (s : State) : (s.putEntry i x).free = s.free := rfl
@[simp] theorem putEntry_pending (i : EntryIx) (x : GrantEntry) (s : State) : (s.putEntry i x).pending = s.pending := rfl

/-! ### addDrain -/

@[simp] theorem addDrain_store (i : EntryIx) (s : State) : (s.addDrain i).store = s.store := rfl
@[simp] theorem addDrain_port (i : EntryIx) (s : State) : (s.addDrain i).port = s.port := rfl
@[simp] theorem addDrain_requesters (i : EntryIx) (s : State) : (s.addDrain i).requesters = s.requesters := rfl
@[simp] theorem addDrain_claims (i : EntryIx) (s : State) : (s.addDrain i).claims = s.claims := rfl
@[simp] theorem addDrain_queue (i : EntryIx) (s : State) : (s.addDrain i).queue = s.queue := rfl
@[simp] theorem addDrain_batch (i : EntryIx) (s : State) : (s.addDrain i).batch = s.batch := rfl
@[simp] theorem addDrain_drain (i : EntryIx) (s : State) : (s.addDrain i).drain = s.drain ++ [⟨i, (drainNs s.settings.drainTime).map (fun t => s.now + t)⟩] := rfl
@[simp] theorem addDrain_freeze (i : EntryIx) (s : State) : (s.addDrain i).freeze = s.freeze := rfl
@[simp] theorem addDrain_sweep (i : EntryIx) (s : State) : (s.addDrain i).sweep = s.sweep := rfl
@[simp] theorem addDrain_errors (i : EntryIx) (s : State) : (s.addDrain i).errors = s.errors := rfl
@[simp] theorem addDrain_settings (i : EntryIx) (s : State) : (s.addDrain i).settings = s.settings := rfl
@[simp] theorem addDrain_mgmt (i : EntryIx) (s : State) : (s.addDrain i).mgmt = s.mgmt := rfl
@[simp] theorem addDrain_loader (i : EntryIx) (s : State) : (s.addDrain i).loader = s.loader := rfl
@[simp] theorem addDrain_board (i : EntryIx) (s : State) : (s.addDrain i).board = s.board := rfl
@[simp] theorem addDrain_resetLow (i : EntryIx) (s : State) : (s.addDrain i).resetLow = s.resetLow := rfl
@[simp] theorem addDrain_loads (i : EntryIx) (s : State) : (s.addDrain i).loads = s.loads := rfl
@[simp] theorem addDrain_now (i : EntryIx) (s : State) : (s.addDrain i).now = s.now := rfl
@[simp] theorem addDrain_free (i : EntryIx) (s : State) : (s.addDrain i).free = s.free := rfl
@[simp] theorem addDrain_pending (i : EntryIx) (s : State) : (s.addDrain i).pending = s.pending := rfl

/-! ### putRequester -/

@[simp] theorem putRequester_store (r : ReqId) (x : Requester) (s : State) : (s.putRequester r x).store = s.store := rfl
@[simp] theorem putRequester_port (r : ReqId) (x : Requester) (s : State) : (s.putRequester r x).port = s.port := rfl
@[simp] theorem putRequester_requesters (r : ReqId) (x : Requester) (s : State) : (s.putRequester r x).requesters = { s.requesters with live := s.requesters.live.set r x } := rfl
@[simp] theorem putRequester_claims (r : ReqId) (x : Requester) (s : State) : (s.putRequester r x).claims = s.claims := rfl
@[simp] theorem putRequester_queue (r : ReqId) (x : Requester) (s : State) : (s.putRequester r x).queue = s.queue := rfl
@[simp] theorem putRequester_batch (r : ReqId) (x : Requester) (s : State) : (s.putRequester r x).batch = s.batch := rfl
@[simp] theorem putRequester_drain (r : ReqId) (x : Requester) (s : State) : (s.putRequester r x).drain = s.drain := rfl
@[simp] theorem putRequester_freeze (r : ReqId) (x : Requester) (s : State) : (s.putRequester r x).freeze = s.freeze := rfl
@[simp] theorem putRequester_sweep (r : ReqId) (x : Requester) (s : State) : (s.putRequester r x).sweep = s.sweep := rfl
@[simp] theorem putRequester_errors (r : ReqId) (x : Requester) (s : State) : (s.putRequester r x).errors = s.errors := rfl
@[simp] theorem putRequester_settings (r : ReqId) (x : Requester) (s : State) : (s.putRequester r x).settings = s.settings := rfl
@[simp] theorem putRequester_mgmt (r : ReqId) (x : Requester) (s : State) : (s.putRequester r x).mgmt = s.mgmt := rfl
@[simp] theorem putRequester_loader (r : ReqId) (x : Requester) (s : State) : (s.putRequester r x).loader = s.loader := rfl
@[simp] theorem putRequester_board (r : ReqId) (x : Requester) (s : State) : (s.putRequester r x).board = s.board := rfl
@[simp] theorem putRequester_resetLow (r : ReqId) (x : Requester) (s : State) : (s.putRequester r x).resetLow = s.resetLow := rfl
@[simp] theorem putRequester_loads (r : ReqId) (x : Requester) (s : State) : (s.putRequester r x).loads = s.loads := rfl
@[simp] theorem putRequester_now (r : ReqId) (x : Requester) (s : State) : (s.putRequester r x).now = s.now := rfl
@[simp] theorem putRequester_free (r : ReqId) (x : Requester) (s : State) : (s.putRequester r x).free = s.free := rfl
@[simp] theorem putRequester_pending (r : ReqId) (x : Requester) (s : State) : (s.putRequester r x).pending = s.pending := rfl

/-! ### putDomain -/

@[simp] theorem putDomain_store (d : Domain) (x : DomainRecord) (s : State) : (s.putDomain d x).store = s.store := rfl
@[simp] theorem putDomain_port (d : Domain) (x : DomainRecord) (s : State) : (s.putDomain d x).port = s.port := rfl
@[simp] theorem putDomain_requesters (d : Domain) (x : DomainRecord) (s : State) : (s.putDomain d x).requesters = { s.requesters with domains := s.requesters.domains.set d x } := rfl
@[simp] theorem putDomain_claims (d : Domain) (x : DomainRecord) (s : State) : (s.putDomain d x).claims = s.claims := rfl
@[simp] theorem putDomain_queue (d : Domain) (x : DomainRecord) (s : State) : (s.putDomain d x).queue = s.queue := rfl
@[simp] theorem putDomain_batch (d : Domain) (x : DomainRecord) (s : State) : (s.putDomain d x).batch = s.batch := rfl
@[simp] theorem putDomain_drain (d : Domain) (x : DomainRecord) (s : State) : (s.putDomain d x).drain = s.drain := rfl
@[simp] theorem putDomain_freeze (d : Domain) (x : DomainRecord) (s : State) : (s.putDomain d x).freeze = s.freeze := rfl
@[simp] theorem putDomain_sweep (d : Domain) (x : DomainRecord) (s : State) : (s.putDomain d x).sweep = s.sweep := rfl
@[simp] theorem putDomain_errors (d : Domain) (x : DomainRecord) (s : State) : (s.putDomain d x).errors = s.errors := rfl
@[simp] theorem putDomain_settings (d : Domain) (x : DomainRecord) (s : State) : (s.putDomain d x).settings = s.settings := rfl
@[simp] theorem putDomain_mgmt (d : Domain) (x : DomainRecord) (s : State) : (s.putDomain d x).mgmt = s.mgmt := rfl
@[simp] theorem putDomain_loader (d : Domain) (x : DomainRecord) (s : State) : (s.putDomain d x).loader = s.loader := rfl
@[simp] theorem putDomain_board (d : Domain) (x : DomainRecord) (s : State) : (s.putDomain d x).board = s.board := rfl
@[simp] theorem putDomain_resetLow (d : Domain) (x : DomainRecord) (s : State) : (s.putDomain d x).resetLow = s.resetLow := rfl
@[simp] theorem putDomain_loads (d : Domain) (x : DomainRecord) (s : State) : (s.putDomain d x).loads = s.loads := rfl
@[simp] theorem putDomain_now (d : Domain) (x : DomainRecord) (s : State) : (s.putDomain d x).now = s.now := rfl
@[simp] theorem putDomain_free (d : Domain) (x : DomainRecord) (s : State) : (s.putDomain d x).free = s.free := rfl
@[simp] theorem putDomain_pending (d : Domain) (x : DomainRecord) (s : State) : (s.putDomain d x).pending = s.pending := rfl

/-! ### putClaim -/

@[simp] theorem putClaim_store (t : Tag) (x : ClaimRecord) (s : State) : (s.putClaim t x).store = s.store := rfl
@[simp] theorem putClaim_port (t : Tag) (x : ClaimRecord) (s : State) : (s.putClaim t x).port = s.port := rfl
@[simp] theorem putClaim_requesters (t : Tag) (x : ClaimRecord) (s : State) : (s.putClaim t x).requesters = s.requesters := rfl
@[simp] theorem putClaim_claims (t : Tag) (x : ClaimRecord) (s : State) : (s.putClaim t x).claims = s.claims.set t x := rfl
@[simp] theorem putClaim_queue (t : Tag) (x : ClaimRecord) (s : State) : (s.putClaim t x).queue = s.queue := rfl
@[simp] theorem putClaim_batch (t : Tag) (x : ClaimRecord) (s : State) : (s.putClaim t x).batch = s.batch := rfl
@[simp] theorem putClaim_drain (t : Tag) (x : ClaimRecord) (s : State) : (s.putClaim t x).drain = s.drain := rfl
@[simp] theorem putClaim_freeze (t : Tag) (x : ClaimRecord) (s : State) : (s.putClaim t x).freeze = s.freeze := rfl
@[simp] theorem putClaim_sweep (t : Tag) (x : ClaimRecord) (s : State) : (s.putClaim t x).sweep = s.sweep := rfl
@[simp] theorem putClaim_errors (t : Tag) (x : ClaimRecord) (s : State) : (s.putClaim t x).errors = s.errors := rfl
@[simp] theorem putClaim_settings (t : Tag) (x : ClaimRecord) (s : State) : (s.putClaim t x).settings = s.settings := rfl
@[simp] theorem putClaim_mgmt (t : Tag) (x : ClaimRecord) (s : State) : (s.putClaim t x).mgmt = s.mgmt := rfl
@[simp] theorem putClaim_loader (t : Tag) (x : ClaimRecord) (s : State) : (s.putClaim t x).loader = s.loader := rfl
@[simp] theorem putClaim_board (t : Tag) (x : ClaimRecord) (s : State) : (s.putClaim t x).board = s.board := rfl
@[simp] theorem putClaim_resetLow (t : Tag) (x : ClaimRecord) (s : State) : (s.putClaim t x).resetLow = s.resetLow := rfl
@[simp] theorem putClaim_loads (t : Tag) (x : ClaimRecord) (s : State) : (s.putClaim t x).loads = s.loads := rfl
@[simp] theorem putClaim_now (t : Tag) (x : ClaimRecord) (s : State) : (s.putClaim t x).now = s.now := rfl
@[simp] theorem putClaim_free (t : Tag) (x : ClaimRecord) (s : State) : (s.putClaim t x).free = s.free := rfl
@[simp] theorem putClaim_pending (t : Tag) (x : ClaimRecord) (s : State) : (s.putClaim t x).pending = s.pending := rfl

/-! ### putSlot -/

@[simp] theorem putSlot_store (k : SlotIx) (x : Slot) (s : State) : (s.putSlot k x).store = s.store := rfl
@[simp] theorem putSlot_port (k : SlotIx) (x : Slot) (s : State) : (s.putSlot k x).port = s.port := rfl
@[simp] theorem putSlot_requesters (k : SlotIx) (x : Slot) (s : State) : (s.putSlot k x).requesters = s.requesters := rfl
@[simp] theorem putSlot_claims (k : SlotIx) (x : Slot) (s : State) : (s.putSlot k x).claims = s.claims := rfl
@[simp] theorem putSlot_queue (k : SlotIx) (x : Slot) (s : State) : (s.putSlot k x).queue = s.queue.set k x := rfl
@[simp] theorem putSlot_batch (k : SlotIx) (x : Slot) (s : State) : (s.putSlot k x).batch = s.batch := rfl
@[simp] theorem putSlot_drain (k : SlotIx) (x : Slot) (s : State) : (s.putSlot k x).drain = s.drain := rfl
@[simp] theorem putSlot_freeze (k : SlotIx) (x : Slot) (s : State) : (s.putSlot k x).freeze = s.freeze := rfl
@[simp] theorem putSlot_sweep (k : SlotIx) (x : Slot) (s : State) : (s.putSlot k x).sweep = s.sweep := rfl
@[simp] theorem putSlot_errors (k : SlotIx) (x : Slot) (s : State) : (s.putSlot k x).errors = s.errors := rfl
@[simp] theorem putSlot_settings (k : SlotIx) (x : Slot) (s : State) : (s.putSlot k x).settings = s.settings := rfl
@[simp] theorem putSlot_mgmt (k : SlotIx) (x : Slot) (s : State) : (s.putSlot k x).mgmt = s.mgmt := rfl
@[simp] theorem putSlot_loader (k : SlotIx) (x : Slot) (s : State) : (s.putSlot k x).loader = s.loader := rfl
@[simp] theorem putSlot_board (k : SlotIx) (x : Slot) (s : State) : (s.putSlot k x).board = s.board := rfl
@[simp] theorem putSlot_resetLow (k : SlotIx) (x : Slot) (s : State) : (s.putSlot k x).resetLow = s.resetLow := rfl
@[simp] theorem putSlot_loads (k : SlotIx) (x : Slot) (s : State) : (s.putSlot k x).loads = s.loads := rfl
@[simp] theorem putSlot_now (k : SlotIx) (x : Slot) (s : State) : (s.putSlot k x).now = s.now := rfl
@[simp] theorem putSlot_free (k : SlotIx) (x : Slot) (s : State) : (s.putSlot k x).free = s.free := rfl
@[simp] theorem putSlot_pending (k : SlotIx) (x : Slot) (s : State) : (s.putSlot k x).pending = s.pending := rfl

/-! ### updateReport -/

@[simp] theorem updateReport_store (f : SweepReport → SweepReport) (s : State) : (s.updateReport f).store = s.store := rfl
@[simp] theorem updateReport_port (f : SweepReport → SweepReport) (s : State) : (s.updateReport f).port = s.port := rfl
@[simp] theorem updateReport_requesters (f : SweepReport → SweepReport) (s : State) : (s.updateReport f).requesters = s.requesters := rfl
@[simp] theorem updateReport_claims (f : SweepReport → SweepReport) (s : State) : (s.updateReport f).claims = s.claims := rfl
@[simp] theorem updateReport_queue (f : SweepReport → SweepReport) (s : State) : (s.updateReport f).queue = s.queue := rfl
@[simp] theorem updateReport_batch (f : SweepReport → SweepReport) (s : State) : (s.updateReport f).batch = s.batch := rfl
@[simp] theorem updateReport_drain (f : SweepReport → SweepReport) (s : State) : (s.updateReport f).drain = s.drain := rfl
@[simp] theorem updateReport_freeze (f : SweepReport → SweepReport) (s : State) : (s.updateReport f).freeze = s.freeze := rfl
@[simp] theorem updateReport_sweep (f : SweepReport → SweepReport) (s : State) : (s.updateReport f).sweep = { s.sweep with result := s.sweep.result.map f } := rfl
@[simp] theorem updateReport_errors (f : SweepReport → SweepReport) (s : State) : (s.updateReport f).errors = s.errors := rfl
@[simp] theorem updateReport_settings (f : SweepReport → SweepReport) (s : State) : (s.updateReport f).settings = s.settings := rfl
@[simp] theorem updateReport_mgmt (f : SweepReport → SweepReport) (s : State) : (s.updateReport f).mgmt = s.mgmt := rfl
@[simp] theorem updateReport_loader (f : SweepReport → SweepReport) (s : State) : (s.updateReport f).loader = s.loader := rfl
@[simp] theorem updateReport_board (f : SweepReport → SweepReport) (s : State) : (s.updateReport f).board = s.board := rfl
@[simp] theorem updateReport_resetLow (f : SweepReport → SweepReport) (s : State) : (s.updateReport f).resetLow = s.resetLow := rfl
@[simp] theorem updateReport_loads (f : SweepReport → SweepReport) (s : State) : (s.updateReport f).loads = s.loads := rfl
@[simp] theorem updateReport_now (f : SweepReport → SweepReport) (s : State) : (s.updateReport f).now = s.now := rfl
@[simp] theorem updateReport_free (f : SweepReport → SweepReport) (s : State) : (s.updateReport f).free = s.free := rfl
@[simp] theorem updateReport_pending (f : SweepReport → SweepReport) (s : State) : (s.updateReport f).pending = s.pending := rfl

/-! ### walkIn -/

@[simp] theorem walkIn_store (x : WalkState) (w : Walk) (s : State) : (s.walkIn x w).store = s.store := rfl
@[simp] theorem walkIn_port (x : WalkState) (w : Walk) (s : State) : (s.walkIn x w).port = s.port := rfl
@[simp] theorem walkIn_requesters (x : WalkState) (w : Walk) (s : State) : (s.walkIn x w).requesters = s.requesters := rfl
@[simp] theorem walkIn_claims (x : WalkState) (w : Walk) (s : State) : (s.walkIn x w).claims = s.claims := rfl
@[simp] theorem walkIn_queue (x : WalkState) (w : Walk) (s : State) : (s.walkIn x w).queue = s.queue := rfl
@[simp] theorem walkIn_batch (x : WalkState) (w : Walk) (s : State) : (s.walkIn x w).batch = s.batch := rfl
@[simp] theorem walkIn_drain (x : WalkState) (w : Walk) (s : State) : (s.walkIn x w).drain = s.drain := rfl
@[simp] theorem walkIn_freeze (x : WalkState) (w : Walk) (s : State) : (s.walkIn x w).freeze = s.freeze := rfl
@[simp] theorem walkIn_sweep (x : WalkState) (w : Walk) (s : State) : (s.walkIn x w).sweep = { s.sweep with walk := some { w with state := x } } := rfl
@[simp] theorem walkIn_errors (x : WalkState) (w : Walk) (s : State) : (s.walkIn x w).errors = s.errors := rfl
@[simp] theorem walkIn_settings (x : WalkState) (w : Walk) (s : State) : (s.walkIn x w).settings = s.settings := rfl
@[simp] theorem walkIn_mgmt (x : WalkState) (w : Walk) (s : State) : (s.walkIn x w).mgmt = s.mgmt := rfl
@[simp] theorem walkIn_loader (x : WalkState) (w : Walk) (s : State) : (s.walkIn x w).loader = s.loader := rfl
@[simp] theorem walkIn_board (x : WalkState) (w : Walk) (s : State) : (s.walkIn x w).board = s.board := rfl
@[simp] theorem walkIn_resetLow (x : WalkState) (w : Walk) (s : State) : (s.walkIn x w).resetLow = s.resetLow := rfl
@[simp] theorem walkIn_loads (x : WalkState) (w : Walk) (s : State) : (s.walkIn x w).loads = s.loads := rfl
@[simp] theorem walkIn_now (x : WalkState) (w : Walk) (s : State) : (s.walkIn x w).now = s.now := rfl
@[simp] theorem walkIn_free (x : WalkState) (w : Walk) (s : State) : (s.walkIn x w).free = s.free := rfl
@[simp] theorem walkIn_pending (x : WalkState) (w : Walk) (s : State) : (s.walkIn x w).pending = s.pending := rfl

/-! ### setStatus -/

@[simp] theorem setStatus_store (x : CommandEnd) (s : State) : (s.setStatus x).store = s.store := rfl
@[simp] theorem setStatus_port (x : CommandEnd) (s : State) : (s.setStatus x).port = s.port := rfl
@[simp] theorem setStatus_requesters (x : CommandEnd) (s : State) : (s.setStatus x).requesters = s.requesters := rfl
@[simp] theorem setStatus_claims (x : CommandEnd) (s : State) : (s.setStatus x).claims = s.claims := rfl
@[simp] theorem setStatus_queue (x : CommandEnd) (s : State) : (s.setStatus x).queue = s.queue := rfl
@[simp] theorem setStatus_batch (x : CommandEnd) (s : State) : (s.setStatus x).batch = s.batch := rfl
@[simp] theorem setStatus_drain (x : CommandEnd) (s : State) : (s.setStatus x).drain = s.drain := rfl
@[simp] theorem setStatus_freeze (x : CommandEnd) (s : State) : (s.setStatus x).freeze = s.freeze := rfl
@[simp] theorem setStatus_sweep (x : CommandEnd) (s : State) : (s.setStatus x).sweep = s.sweep := rfl
@[simp] theorem setStatus_errors (x : CommandEnd) (s : State) : (s.setStatus x).errors = s.errors := rfl
@[simp] theorem setStatus_settings (x : CommandEnd) (s : State) : (s.setStatus x).settings = s.settings := rfl
@[simp] theorem setStatus_loader (x : CommandEnd) (s : State) : (s.setStatus x).loader = s.loader := rfl
@[simp] theorem setStatus_board (x : CommandEnd) (s : State) : (s.setStatus x).board = s.board := rfl
@[simp] theorem setStatus_resetLow (x : CommandEnd) (s : State) : (s.setStatus x).resetLow = s.resetLow := rfl
@[simp] theorem setStatus_loads (x : CommandEnd) (s : State) : (s.setStatus x).loads = s.loads := rfl
@[simp] theorem setStatus_now (x : CommandEnd) (s : State) : (s.setStatus x).now = s.now := rfl
@[simp] theorem setStatus_free (x : CommandEnd) (s : State) : (s.setStatus x).free = s.free := rfl
@[simp] theorem setStatus_pending (x : CommandEnd) (s : State) : (s.setStatus x).pending = s.pending := rfl

/-! ### byteTaken -/

@[simp] theorem byteTaken_store (s : State) : s.byteTaken.store = s.store := rfl
@[simp] theorem byteTaken_port (s : State) : s.byteTaken.port = s.port := rfl
@[simp] theorem byteTaken_requesters (s : State) : s.byteTaken.requesters = s.requesters := rfl
@[simp] theorem byteTaken_claims (s : State) : s.byteTaken.claims = s.claims := rfl
@[simp] theorem byteTaken_queue (s : State) : s.byteTaken.queue = s.queue := rfl
@[simp] theorem byteTaken_batch (s : State) : s.byteTaken.batch = s.batch := rfl
@[simp] theorem byteTaken_drain (s : State) : s.byteTaken.drain = s.drain := rfl
@[simp] theorem byteTaken_freeze (s : State) : s.byteTaken.freeze = s.freeze := rfl
@[simp] theorem byteTaken_sweep (s : State) : s.byteTaken.sweep = s.sweep := rfl
@[simp] theorem byteTaken_errors (s : State) : s.byteTaken.errors = s.errors := rfl
@[simp] theorem byteTaken_settings (s : State) : s.byteTaken.settings = s.settings := rfl
@[simp] theorem byteTaken_mgmt (s : State) : s.byteTaken.mgmt = { s.mgmt with pointer := s.mgmt.pointer + 1#7, sent := none } := rfl
@[simp] theorem byteTaken_loader (s : State) : s.byteTaken.loader = s.loader := rfl
@[simp] theorem byteTaken_board (s : State) : s.byteTaken.board = s.board := rfl
@[simp] theorem byteTaken_resetLow (s : State) : s.byteTaken.resetLow = s.resetLow := rfl
@[simp] theorem byteTaken_loads (s : State) : s.byteTaken.loads = s.loads := rfl
@[simp] theorem byteTaken_now (s : State) : s.byteTaken.now = s.now := rfl
@[simp] theorem byteTaken_free (s : State) : s.byteTaken.free = s.free := rfl
@[simp] theorem byteTaken_pending (s : State) : s.byteTaken.pending = s.pending := rfl

/-! ### putStaging -/

@[simp] theorem putStaging_store (x : Staging) (s : State) : (s.putStaging x).store = s.store := rfl
@[simp] theorem putStaging_port (x : Staging) (s : State) : (s.putStaging x).port = s.port := rfl
@[simp] theorem putStaging_requesters (x : Staging) (s : State) : (s.putStaging x).requesters = s.requesters := rfl
@[simp] theorem putStaging_claims (x : Staging) (s : State) : (s.putStaging x).claims = s.claims := rfl
@[simp] theorem putStaging_queue (x : Staging) (s : State) : (s.putStaging x).queue = s.queue := rfl
@[simp] theorem putStaging_batch (x : Staging) (s : State) : (s.putStaging x).batch = { s.batch with staging := x } := rfl
@[simp] theorem putStaging_drain (x : Staging) (s : State) : (s.putStaging x).drain = s.drain := rfl
@[simp] theorem putStaging_freeze (x : Staging) (s : State) : (s.putStaging x).freeze = s.freeze := rfl
@[simp] theorem putStaging_sweep (x : Staging) (s : State) : (s.putStaging x).sweep = s.sweep := rfl
@[simp] theorem putStaging_errors (x : Staging) (s : State) : (s.putStaging x).errors = s.errors := rfl
@[simp] theorem putStaging_settings (x : Staging) (s : State) : (s.putStaging x).settings = s.settings := rfl
@[simp] theorem putStaging_mgmt (x : Staging) (s : State) : (s.putStaging x).mgmt = s.mgmt := rfl
@[simp] theorem putStaging_loader (x : Staging) (s : State) : (s.putStaging x).loader = s.loader := rfl
@[simp] theorem putStaging_board (x : Staging) (s : State) : (s.putStaging x).board = s.board := rfl
@[simp] theorem putStaging_resetLow (x : Staging) (s : State) : (s.putStaging x).resetLow = s.resetLow := rfl
@[simp] theorem putStaging_loads (x : Staging) (s : State) : (s.putStaging x).loads = s.loads := rfl
@[simp] theorem putStaging_now (x : Staging) (s : State) : (s.putStaging x).now = s.now := rfl
@[simp] theorem putStaging_free (x : Staging) (s : State) : (s.putStaging x).free = s.free := rfl
@[simp] theorem putStaging_pending (x : Staging) (s : State) : (s.putStaging x).pending = s.pending := rfl

/-! ### putResult -/

@[simp] theorem putResult_store (x : CommitResult) (s : State) : (s.putResult x).store = s.store := rfl
@[simp] theorem putResult_port (x : CommitResult) (s : State) : (s.putResult x).port = s.port := rfl
@[simp] theorem putResult_requesters (x : CommitResult) (s : State) : (s.putResult x).requesters = s.requesters := rfl
@[simp] theorem putResult_claims (x : CommitResult) (s : State) : (s.putResult x).claims = s.claims := rfl
@[simp] theorem putResult_queue (x : CommitResult) (s : State) : (s.putResult x).queue = s.queue := rfl
@[simp] theorem putResult_batch (x : CommitResult) (s : State) : (s.putResult x).batch = { s.batch with result := x } := rfl
@[simp] theorem putResult_drain (x : CommitResult) (s : State) : (s.putResult x).drain = s.drain := rfl
@[simp] theorem putResult_freeze (x : CommitResult) (s : State) : (s.putResult x).freeze = s.freeze := rfl
@[simp] theorem putResult_sweep (x : CommitResult) (s : State) : (s.putResult x).sweep = s.sweep := rfl
@[simp] theorem putResult_errors (x : CommitResult) (s : State) : (s.putResult x).errors = s.errors := rfl
@[simp] theorem putResult_settings (x : CommitResult) (s : State) : (s.putResult x).settings = s.settings := rfl
@[simp] theorem putResult_mgmt (x : CommitResult) (s : State) : (s.putResult x).mgmt = s.mgmt := rfl
@[simp] theorem putResult_loader (x : CommitResult) (s : State) : (s.putResult x).loader = s.loader := rfl
@[simp] theorem putResult_board (x : CommitResult) (s : State) : (s.putResult x).board = s.board := rfl
@[simp] theorem putResult_resetLow (x : CommitResult) (s : State) : (s.putResult x).resetLow = s.resetLow := rfl
@[simp] theorem putResult_loads (x : CommitResult) (s : State) : (s.putResult x).loads = s.loads := rfl
@[simp] theorem putResult_now (x : CommitResult) (s : State) : (s.putResult x).now = s.now := rfl
@[simp] theorem putResult_free (x : CommitResult) (s : State) : (s.putResult x).free = s.free := rfl
@[simp] theorem putResult_pending (x : CommitResult) (s : State) : (s.putResult x).pending = s.pending := rfl

/-! ### putLockMark -/

@[simp] theorem putLockMark_store (x : Option Group) (s : State) : (s.putLockMark x).store = { s.store with lockMark := x } := rfl
@[simp] theorem putLockMark_port (x : Option Group) (s : State) : (s.putLockMark x).port = s.port := rfl
@[simp] theorem putLockMark_requesters (x : Option Group) (s : State) : (s.putLockMark x).requesters = s.requesters := rfl
@[simp] theorem putLockMark_claims (x : Option Group) (s : State) : (s.putLockMark x).claims = s.claims := rfl
@[simp] theorem putLockMark_queue (x : Option Group) (s : State) : (s.putLockMark x).queue = s.queue := rfl
@[simp] theorem putLockMark_batch (x : Option Group) (s : State) : (s.putLockMark x).batch = s.batch := rfl
@[simp] theorem putLockMark_drain (x : Option Group) (s : State) : (s.putLockMark x).drain = s.drain := rfl
@[simp] theorem putLockMark_freeze (x : Option Group) (s : State) : (s.putLockMark x).freeze = s.freeze := rfl
@[simp] theorem putLockMark_sweep (x : Option Group) (s : State) : (s.putLockMark x).sweep = s.sweep := rfl
@[simp] theorem putLockMark_errors (x : Option Group) (s : State) : (s.putLockMark x).errors = s.errors := rfl
@[simp] theorem putLockMark_settings (x : Option Group) (s : State) : (s.putLockMark x).settings = s.settings := rfl
@[simp] theorem putLockMark_mgmt (x : Option Group) (s : State) : (s.putLockMark x).mgmt = s.mgmt := rfl
@[simp] theorem putLockMark_loader (x : Option Group) (s : State) : (s.putLockMark x).loader = s.loader := rfl
@[simp] theorem putLockMark_board (x : Option Group) (s : State) : (s.putLockMark x).board = s.board := rfl
@[simp] theorem putLockMark_resetLow (x : Option Group) (s : State) : (s.putLockMark x).resetLow = s.resetLow := rfl
@[simp] theorem putLockMark_loads (x : Option Group) (s : State) : (s.putLockMark x).loads = s.loads := rfl
@[simp] theorem putLockMark_now (x : Option Group) (s : State) : (s.putLockMark x).now = s.now := rfl
@[simp] theorem putLockMark_free (x : Option Group) (s : State) : (s.putLockMark x).free = s.free := rfl
@[simp] theorem putLockMark_pending (x : Option Group) (s : State) : (s.putLockMark x).pending = s.pending := rfl

/-! ### putWork -/

@[simp] theorem putWork_store (x : LoadWork) (s : State) : (s.putWork x).store = s.store := rfl
@[simp] theorem putWork_port (x : LoadWork) (s : State) : (s.putWork x).port = s.port := rfl
@[simp] theorem putWork_requesters (x : LoadWork) (s : State) : (s.putWork x).requesters = s.requesters := rfl
@[simp] theorem putWork_claims (x : LoadWork) (s : State) : (s.putWork x).claims = s.claims := rfl
@[simp] theorem putWork_queue (x : LoadWork) (s : State) : (s.putWork x).queue = s.queue := rfl
@[simp] theorem putWork_batch (x : LoadWork) (s : State) : (s.putWork x).batch = s.batch := rfl
@[simp] theorem putWork_drain (x : LoadWork) (s : State) : (s.putWork x).drain = s.drain := rfl
@[simp] theorem putWork_freeze (x : LoadWork) (s : State) : (s.putWork x).freeze = s.freeze := rfl
@[simp] theorem putWork_sweep (x : LoadWork) (s : State) : (s.putWork x).sweep = s.sweep := rfl
@[simp] theorem putWork_errors (x : LoadWork) (s : State) : (s.putWork x).errors = s.errors := rfl
@[simp] theorem putWork_settings (x : LoadWork) (s : State) : (s.putWork x).settings = s.settings := rfl
@[simp] theorem putWork_mgmt (x : LoadWork) (s : State) : (s.putWork x).mgmt = s.mgmt := rfl
@[simp] theorem putWork_loader (x : LoadWork) (s : State) : (s.putWork x).loader = { s.loader with work := x } := rfl
@[simp] theorem putWork_board (x : LoadWork) (s : State) : (s.putWork x).board = s.board := rfl
@[simp] theorem putWork_resetLow (x : LoadWork) (s : State) : (s.putWork x).resetLow = s.resetLow := rfl
@[simp] theorem putWork_loads (x : LoadWork) (s : State) : (s.putWork x).loads = s.loads := rfl
@[simp] theorem putWork_now (x : LoadWork) (s : State) : (s.putWork x).now = s.now := rfl
@[simp] theorem putWork_free (x : LoadWork) (s : State) : (s.putWork x).free = s.free := rfl
@[simp] theorem putWork_pending (x : LoadWork) (s : State) : (s.putWork x).pending = s.pending := rfl

/-! ### putFlags -/

@[simp] theorem putFlags_store (f : ImageFlags → ImageFlags) (s : State) : (s.putFlags f).store = s.store := rfl
@[simp] theorem putFlags_port (f : ImageFlags → ImageFlags) (s : State) : (s.putFlags f).port = s.port := rfl
@[simp] theorem putFlags_requesters (f : ImageFlags → ImageFlags) (s : State) : (s.putFlags f).requesters = s.requesters := rfl
@[simp] theorem putFlags_claims (f : ImageFlags → ImageFlags) (s : State) : (s.putFlags f).claims = s.claims := rfl
@[simp] theorem putFlags_queue (f : ImageFlags → ImageFlags) (s : State) : (s.putFlags f).queue = s.queue := rfl
@[simp] theorem putFlags_batch (f : ImageFlags → ImageFlags) (s : State) : (s.putFlags f).batch = s.batch := rfl
@[simp] theorem putFlags_drain (f : ImageFlags → ImageFlags) (s : State) : (s.putFlags f).drain = s.drain := rfl
@[simp] theorem putFlags_freeze (f : ImageFlags → ImageFlags) (s : State) : (s.putFlags f).freeze = s.freeze := rfl
@[simp] theorem putFlags_sweep (f : ImageFlags → ImageFlags) (s : State) : (s.putFlags f).sweep = s.sweep := rfl
@[simp] theorem putFlags_errors (f : ImageFlags → ImageFlags) (s : State) : (s.putFlags f).errors = s.errors := rfl
@[simp] theorem putFlags_settings (f : ImageFlags → ImageFlags) (s : State) : (s.putFlags f).settings = s.settings := rfl
@[simp] theorem putFlags_mgmt (f : ImageFlags → ImageFlags) (s : State) : (s.putFlags f).mgmt = s.mgmt := rfl
@[simp] theorem putFlags_loader (f : ImageFlags → ImageFlags) (s : State) : (s.putFlags f).loader = { s.loader with flags := f s.loader.flags } := rfl
@[simp] theorem putFlags_board (f : ImageFlags → ImageFlags) (s : State) : (s.putFlags f).board = s.board := rfl
@[simp] theorem putFlags_resetLow (f : ImageFlags → ImageFlags) (s : State) : (s.putFlags f).resetLow = s.resetLow := rfl
@[simp] theorem putFlags_loads (f : ImageFlags → ImageFlags) (s : State) : (s.putFlags f).loads = s.loads := rfl
@[simp] theorem putFlags_now (f : ImageFlags → ImageFlags) (s : State) : (s.putFlags f).now = s.now := rfl
@[simp] theorem putFlags_free (f : ImageFlags → ImageFlags) (s : State) : (s.putFlags f).free = s.free := rfl
@[simp] theorem putFlags_pending (f : ImageFlags → ImageFlags) (s : State) : (s.putFlags f).pending = s.pending := rfl

end Sys2Proof.Machine.State
end

