-- ==== Sys2Proof/Laws/Table.lean ====
section
/-! SUPPORT. The Grant Table as a list: what a read gives after a store, and the canonical form kept. -/

namespace Sys2Proof.Machine

namespace Table

/-- Below the bound of a canonical table nothing is listed. -/
theorem get_of_lt {lo : Nat} {t : Table} (h : Table.wfFrom lo t = true) {i : Nat} (hi : i < lo) :
    Table.get t i = clearedEntry := by
  induction t generalizing lo with
  | nil => rfl
  | cons x t ih =>
    obtain ⟨k, e⟩ := x
    simp only [Table.wfFrom, Bool.and_eq_true, decide_eq_true_eq] at h
    obtain ⟨⟨⟨h1, _⟩, _⟩, h4⟩ := h
    simp only [Table.get]
    rw [if_neg (by omega)]
    exact ih h4 (by omega)

/-- A lower bound serves too. -/
theorem wfFrom_mono {lo lo' : Nat} {t : Table} (hle : lo' ≤ lo) (h : Table.wfFrom lo t = true) :
    Table.wfFrom lo' t = true := by
  cases t with
  | nil => rfl
  | cons x t =>
    obtain ⟨k, e⟩ := x
    simp only [Table.wfFrom, Bool.and_eq_true, decide_eq_true_eq] at h ⊢
    exact ⟨⟨⟨by omega, h.1.1.2⟩, h.1.2⟩, h.2⟩

/-- Storing at another index changes no read. -/
theorem get_put_of_ne (t : Table) {i j : Nat} (e : GrantEntry) (h : j ≠ i) :
    Table.get (Table.put t i e) j = Table.get t j := by
  induction t with
  | nil =>
    by_cases he : e = clearedEntry
    · simp [Table.put, he]
    · simp [Table.put, he, Table.get, Ne.symm h]
  | cons x t ih =>
    obtain ⟨k, a⟩ := x
    simp only [Table.put]
    split
    · split <;> simp [Table.get, Ne.symm h]
    · split
      · subst i
        split <;> simp [Table.get, Ne.symm h]
      · simp only [Table.get, ih]

/-- Reading where one has stored gives what was stored, in a canonical table. -/
theorem get_put_self {lo : Nat} {t : Table} (h : Table.wfFrom lo t = true) (i : Nat) (e : GrantEntry) :
    Table.get (Table.put t i e) i = e := by
  induction t generalizing lo with
  | nil =>
    by_cases he : e = clearedEntry
    · simp [Table.put, he, Table.get]
    · simp [Table.put, he, Table.get]
  | cons x t ih =>
    obtain ⟨k, a⟩ := x
    simp only [Table.wfFrom, Bool.and_eq_true, decide_eq_true_eq] at h
    obtain ⟨⟨⟨_, _⟩, _⟩, h4⟩ := h
    simp only [Table.put]
    split
    · split
      · rename_i hlt he
        subst he
        simp only [Table.get]
        rw [if_neg (by omega)]
        exact get_of_lt h4 (by omega)
      · simp [Table.get]
    · split
      · subst i
        split
        · rename_i he
          subst he
          exact get_of_lt h4 (by omega)
        · simp [Table.get]
      · rename_i hne
        simp only [Table.get]
        rw [if_neg (Ne.symm hne)]
        exact ih h4

/-- The same in any list, for an entry that is listed. -/
theorem get_put_self_of_ne (t : Table) (i : Nat) {e : GrantEntry} (he : e ≠ clearedEntry) :
    Table.get (Table.put t i e) i = e := by
  induction t with
  | nil => simp [Table.put, he, Table.get]
  | cons x t ih =>
    obtain ⟨k, a⟩ := x
    simp only [Table.put, if_neg he]
    split
    · simp [Table.get]
    · split
      · simp [Table.get]
      · rename_i hne
        simp only [Table.get]
        rw [if_neg (Ne.symm hne)]
        exact ih

/-- Of two stores at one index the second stands, when the first entry is a listed one. -/
theorem put_put_of_ne (t : Table) (i : Nat) {a : GrantEntry} (b : GrantEntry) (ha : a ≠ clearedEntry) :
    Table.put (Table.put t i a) i b = Table.put t i b := by
  induction t with
  | nil => simp [Table.put, ha]
  | cons x t ih =>
    obtain ⟨k, c⟩ := x
    by_cases h1 : i < k
    · simp [Table.put, h1, ha]
    · by_cases h2 : i = k
      · subst h2; simp [Table.put, ha]
      · simp [Table.put, h1, h2, ih]

theorem wfFrom_put {lo : Nat} {t : Table} (h : Table.wfFrom lo t = true) {i : Nat} (hl : lo ≤ i) (hi : i < 4096)
    (e : GrantEntry) : Table.wfFrom lo (Table.put t i e) = true := by
  induction t generalizing lo with
  | nil =>
    by_cases he : e = clearedEntry
    · simp [Table.put, he, Table.wfFrom]
    · simp [Table.put, he, Table.wfFrom, hl, hi]
  | cons x t ih =>
    obtain ⟨k, a⟩ := x
    simp only [Table.wfFrom, Bool.and_eq_true, decide_eq_true_eq] at h
    obtain ⟨⟨⟨h1, h2⟩, h3⟩, h4⟩ := h
    simp only [Table.put]
    split
    · split
      · simp only [Table.wfFrom, Bool.and_eq_true, decide_eq_true_eq]
        exact ⟨⟨⟨h1, h2⟩, h3⟩, h4⟩
      · rename_i hlt he
        simp only [Table.wfFrom, Bool.and_eq_true, decide_eq_true_eq]
        exact ⟨⟨⟨hl, hi⟩, he⟩, ⟨⟨by omega, h2⟩, h3⟩, h4⟩
    · split
      · subst i
        split
        · exact wfFrom_mono (by omega) h4
        · rename_i he
          simp only [Table.wfFrom, Bool.and_eq_true, decide_eq_true_eq]
          exact ⟨⟨⟨h1, h2⟩, he⟩, h4⟩
      · simp only [Table.wfFrom, Bool.and_eq_true, decide_eq_true_eq]
        exact ⟨⟨⟨h1, h2⟩, h3⟩, ih h4 (by omega)⟩

/-- A store keeps the canonical form. -/
theorem wf_put {t : Table} (h : Table.wf t = true) (i : EntryIx) (e : GrantEntry) :
    Table.wf (Table.put t i.val e) = true := wfFrom_put h (Nat.zero_le _) i.isLt e

end Table

/-! ### The same through State -/

theorem State.entry_putEntry_ne (s : State) {i j : EntryIx} (e : GrantEntry) (h : j ≠ i) :
    (s.putEntry i e).entry j = s.entry j :=
  Table.get_put_of_ne _ e (fun hv => h (Fin.ext hv))

theorem State.entry_putEntry_self {s : State} (h : Canonical s) (i : EntryIx) (e : GrantEntry) :
    (s.putEntry i e).entry i = e := Table.get_put_self h i.val e

theorem State.entry_putEntry_listed (s : State) (i : EntryIx) {e : GrantEntry} (he : e ≠ clearedEntry) :
    (s.putEntry i e).entry i = e := Table.get_put_self_of_ne _ i.val he

/-- What an entry reads as depends on the entries alone. -/
theorem State.entry_congr {s t : State} (h : t.store.entries = s.store.entries) (i : EntryIx) : t.entry i = s.entry i := by
  simp only [State.entry, h]

/-- So does the canonical form. -/
theorem canonical_congr {s t : State} (h : t.store.entries = s.store.entries) (hs : Canonical s) : Canonical t := by
  unfold Canonical at *
  rw [h]
  exact hs

theorem canonical_putEntry {s : State} (h : Canonical s) (i : EntryIx) (e : GrantEntry) : Canonical (s.putEntry i e) :=
  Table.wf_put h i e

/-- A POISONED entry is a listed one. -/
theorem poisoned_ne_cleared (c : Fin 65) (g : Generation) (b : Bool) : (⟨.poisoned, c, g, b⟩ : GrantEntry) ≠ clearedEntry := by
  intro h
  exact absurd (congrArg GrantEntry.contents h) (by simp [clearedEntry])

theorem live_ne_cleared (p : Placement) (c : Fin 65) (g : Generation) (b : Bool) :
    (⟨.live p, c, g, b⟩ : GrantEntry) ≠ clearedEntry := by
  intro h
  exact absurd (congrArg GrantEntry.contents h) (by simp [clearedEntry])

theorem revoking_ne_cleared (p : Placement) (c : Fin 65) (g : Generation) (b : Bool) :
    (⟨.revoking p, c, g, b⟩ : GrantEntry) ≠ clearedEntry := by
  intro h
  exact absurd (congrArg GrantEntry.contents h) (by simp [clearedEntry])

/-- The table right after power-on is in canonical form and reads as cleared everywhere (01 R22). -/
theorem canonical_reset : Canonical State.reset := by decide

theorem entry_reset (i : EntryIx) : State.reset.entry i = clearedEntry := rfl

end Sys2Proof.Machine
end

