-- ==== Sys2Proof/Laws/Ops.lean ====
section
/-! SUPPORT. What each shared operation can change: one shape lemma per operation (the operation answers the state it was
given, but for the fields named), and from it one lemma per field it leaves. -/

namespace Sys2Proof.Machine.State

/-! ### 01, 02, 04, 05, 07: Ops.lean -/

/-- Poisoning changes the table, the Drain List and the errors (01 R17). -/
theorem poison_shape (f : Finder) (i : EntryIx) (s : State) :
    ∃ x0 x6 x9, s.poison f i = { s with store := x0, drain := x6, errors := x9 } := by
  exact ⟨_, _, _, rfl⟩
@[simp] theorem poison_port (f : Finder) (i : EntryIx) (s : State) : (s.poison f i).port = s.port := by
  obtain ⟨_, _, _, h⟩ := poison_shape _ _ s; rw [h]
@[simp] theorem poison_requesters (f : Finder) (i : EntryIx) (s : State) : (s.poison f i).requesters = s.requesters := by
  obtain ⟨_, _, _, h⟩ := poison_shape _ _ s; rw [h]
@[simp] theorem poison_claims (f : Finder) (i : EntryIx) (s : State) : (s.poison f i).claims = s.claims := by
  obtain ⟨_, _, _, h⟩ := poison_shape _ _ s; rw [h]
@[simp] theorem poison_queue (f : Finder) (i : EntryIx) (s : State) : (s.poison f i).queue = s.queue := by
  obtain ⟨_, _, _, h⟩ := poison_shape _ _ s; rw [h]
@[simp] theorem poison_batch (f : Finder) (i : EntryIx) (s : State) : (s.poison f i).batch = s.batch := by
  obtain ⟨_, _, _, h⟩ := poison_shape _ _ s; rw [h]
@[simp] theorem poison_freeze (f : Finder) (i : EntryIx) (s : State) : (s.poison f i).freeze = s.freeze := by
  obtain ⟨_, _, _, h⟩ := poison_shape _ _ s; rw [h]
@[simp] theorem poison_sweep (f : Finder) (i : EntryIx) (s : State) : (s.poison f i).sweep = s.sweep := by
  obtain ⟨_, _, _, h⟩ := poison_shape _ _ s; rw [h]
@[simp] theorem poison_settings (f : Finder) (i : EntryIx) (s : State) : (s.poison f i).settings = s.settings := by
  obtain ⟨_, _, _, h⟩ := poison_shape _ _ s; rw [h]
@[simp] theorem poison_mgmt (f : Finder) (i : EntryIx) (s : State) : (s.poison f i).mgmt = s.mgmt := by
  obtain ⟨_, _, _, h⟩ := poison_shape _ _ s; rw [h]
@[simp] theorem poison_loader (f : Finder) (i : EntryIx) (s : State) : (s.poison f i).loader = s.loader := by
  obtain ⟨_, _, _, h⟩ := poison_shape _ _ s; rw [h]
@[simp] theorem poison_board (f : Finder) (i : EntryIx) (s : State) : (s.poison f i).board = s.board := by
  obtain ⟨_, _, _, h⟩ := poison_shape _ _ s; rw [h]
@[simp] theorem poison_resetLow (f : Finder) (i : EntryIx) (s : State) : (s.poison f i).resetLow = s.resetLow := by
  obtain ⟨_, _, _, h⟩ := poison_shape _ _ s; rw [h]
@[simp] theorem poison_loads (f : Finder) (i : EntryIx) (s : State) : (s.poison f i).loads = s.loads := by
  obtain ⟨_, _, _, h⟩ := poison_shape _ _ s; rw [h]
@[simp] theorem poison_now (f : Finder) (i : EntryIx) (s : State) : (s.poison f i).now = s.now := by
  obtain ⟨_, _, _, h⟩ := poison_shape _ _ s; rw [h]
@[simp] theorem poison_free (f : Finder) (i : EntryIx) (s : State) : (s.poison f i).free = s.free := by
  obtain ⟨_, _, _, h⟩ := poison_shape _ _ s; rw [h]
@[simp] theorem poison_pending (f : Finder) (i : EntryIx) (s : State) : (s.poison f i).pending = s.pending := by
  obtain ⟨_, _, _, h⟩ := poison_shape _ _ s; rw [h]

/-- A read with the check changes no more than poisoning does. -/
theorem readEntry_shape (f : Finder) (i : EntryIx) (s : State) :
    ∃ x0 x6 x9, s.readEntry f i = { s with store := x0, drain := x6, errors := x9 } := by
  unfold State.readEntry
  split
  · exact poison_shape f i s
  · exact ⟨_, _, _, rfl⟩
@[simp] theorem readEntry_port (f : Finder) (i : EntryIx) (s : State) : (s.readEntry f i).port = s.port := by
  obtain ⟨_, _, _, h⟩ := readEntry_shape _ _ s; rw [h]
@[simp] theorem readEntry_requesters (f : Finder) (i : EntryIx) (s : State) : (s.readEntry f i).requesters = s.requesters := by
  obtain ⟨_, _, _, h⟩ := readEntry_shape _ _ s; rw [h]
@[simp] theorem readEntry_claims (f : Finder) (i : EntryIx) (s : State) : (s.readEntry f i).claims = s.claims := by
  obtain ⟨_, _, _, h⟩ := readEntry_shape _ _ s; rw [h]
@[simp] theorem readEntry_queue (f : Finder) (i : EntryIx) (s : State) : (s.readEntry f i).queue = s.queue := by
  obtain ⟨_, _, _, h⟩ := readEntry_shape _ _ s; rw [h]
@[simp] theorem readEntry_batch (f : Finder) (i : EntryIx) (s : State) : (s.readEntry f i).batch = s.batch := by
  obtain ⟨_, _, _, h⟩ := readEntry_shape _ _ s; rw [h]
@[simp] theorem readEntry_freeze (f : Finder) (i : EntryIx) (s : State) : (s.readEntry f i).freeze = s.freeze := by
  obtain ⟨_, _, _, h⟩ := readEntry_shape _ _ s; rw [h]
@[simp] theorem readEntry_sweep (f : Finder) (i : EntryIx) (s : State) : (s.readEntry f i).sweep = s.sweep := by
  obtain ⟨_, _, _, h⟩ := readEntry_shape _ _ s; rw [h]
@[simp] theorem readEntry_settings (f : Finder) (i : EntryIx) (s : State) : (s.readEntry f i).settings = s.settings := by
  obtain ⟨_, _, _, h⟩ := readEntry_shape _ _ s; rw [h]
@[simp] theorem readEntry_mgmt (f : Finder) (i : EntryIx) (s : State) : (s.readEntry f i).mgmt = s.mgmt := by
  obtain ⟨_, _, _, h⟩ := readEntry_shape _ _ s; rw [h]
@[simp] theorem readEntry_loader (f : Finder) (i : EntryIx) (s : State) : (s.readEntry f i).loader = s.loader := by
  obtain ⟨_, _, _, h⟩ := readEntry_shape _ _ s; rw [h]
@[simp] theorem readEntry_board (f : Finder) (i : EntryIx) (s : State) : (s.readEntry f i).board = s.board := by
  obtain ⟨_, _, _, h⟩ := readEntry_shape _ _ s; rw [h]
@[simp] theorem readEntry_resetLow (f : Finder) (i : EntryIx) (s : State) : (s.readEntry f i).resetLow = s.resetLow := by
  obtain ⟨_, _, _, h⟩ := readEntry_shape _ _ s; rw [h]
@[simp] theorem readEntry_loads (f : Finder) (i : EntryIx) (s : State) : (s.readEntry f i).loads = s.loads := by
  obtain ⟨_, _, _, h⟩ := readEntry_shape _ _ s; rw [h]
@[simp] theorem readEntry_now (f : Finder) (i : EntryIx) (s : State) : (s.readEntry f i).now = s.now := by
  obtain ⟨_, _, _, h⟩ := readEntry_shape _ _ s; rw [h]
@[simp] theorem readEntry_free (f : Finder) (i : EntryIx) (s : State) : (s.readEntry f i).free = s.free := by
  obtain ⟨_, _, _, h⟩ := readEntry_shape _ _ s; rw [h]
@[simp] theorem readEntry_pending (f : Finder) (i : EntryIx) (s : State) : (s.readEntry f i).pending = s.pending := by
  obtain ⟨_, _, _, h⟩ := readEntry_shape _ _ s; rw [h]

/-- A requester fault changes the requesters and the errors (02 R29 to R31). -/
theorem fault_shape (r : ReqId) (k : FaultKind) (s : State) :
    ∃ x2 x9, s.fault r k = { s with requesters := x2, errors := x9 } := by
  unfold State.fault
  dsimp only
  split
  · split
    · exact ⟨_, _, rfl⟩
    · exact ⟨_, _, rfl⟩
  · exact ⟨_, _, rfl⟩
@[simp] theorem fault_store (r : ReqId) (k : FaultKind) (s : State) : (s.fault r k).store = s.store := by
  obtain ⟨_, _, h⟩ := fault_shape _ _ s; rw [h]
@[simp] theorem fault_port (r : ReqId) (k : FaultKind) (s : State) : (s.fault r k).port = s.port := by
  obtain ⟨_, _, h⟩ := fault_shape _ _ s; rw [h]
@[simp] theorem fault_claims (r : ReqId) (k : FaultKind) (s : State) : (s.fault r k).claims = s.claims := by
  obtain ⟨_, _, h⟩ := fault_shape _ _ s; rw [h]
@[simp] theorem fault_queue (r : ReqId) (k : FaultKind) (s : State) : (s.fault r k).queue = s.queue := by
  obtain ⟨_, _, h⟩ := fault_shape _ _ s; rw [h]
@[simp] theorem fault_batch (r : ReqId) (k : FaultKind) (s : State) : (s.fault r k).batch = s.batch := by
  obtain ⟨_, _, h⟩ := fault_shape _ _ s; rw [h]
@[simp] theorem fault_drain (r : ReqId) (k : FaultKind) (s : State) : (s.fault r k).drain = s.drain := by
  obtain ⟨_, _, h⟩ := fault_shape _ _ s; rw [h]
@[simp] theorem fault_freeze (r : ReqId) (k : FaultKind) (s : State) : (s.fault r k).freeze = s.freeze := by
  obtain ⟨_, _, h⟩ := fault_shape _ _ s; rw [h]
@[simp] theorem fault_sweep (r : ReqId) (k : FaultKind) (s : State) : (s.fault r k).sweep = s.sweep := by
  obtain ⟨_, _, h⟩ := fault_shape _ _ s; rw [h]
@[simp] theorem fault_settings (r : ReqId) (k : FaultKind) (s : State) : (s.fault r k).settings = s.settings := by
  obtain ⟨_, _, h⟩ := fault_shape _ _ s; rw [h]
@[simp] theorem fault_mgmt (r : ReqId) (k : FaultKind) (s : State) : (s.fault r k).mgmt = s.mgmt := by
  obtain ⟨_, _, h⟩ := fault_shape _ _ s; rw [h]
@[simp] theorem fault_loader (r : ReqId) (k : FaultKind) (s : State) : (s.fault r k).loader = s.loader := by
  obtain ⟨_, _, h⟩ := fault_shape _ _ s; rw [h]
@[simp] theorem fault_board (r : ReqId) (k : FaultKind) (s : State) : (s.fault r k).board = s.board := by
  obtain ⟨_, _, h⟩ := fault_shape _ _ s; rw [h]
@[simp] theorem fault_resetLow (r : ReqId) (k : FaultKind) (s : State) : (s.fault r k).resetLow = s.resetLow := by
  obtain ⟨_, _, h⟩ := fault_shape _ _ s; rw [h]
@[simp] theorem fault_loads (r : ReqId) (k : FaultKind) (s : State) : (s.fault r k).loads = s.loads := by
  obtain ⟨_, _, h⟩ := fault_shape _ _ s; rw [h]
@[simp] theorem fault_now (r : ReqId) (k : FaultKind) (s : State) : (s.fault r k).now = s.now := by
  obtain ⟨_, _, h⟩ := fault_shape _ _ s; rw [h]
@[simp] theorem fault_free (r : ReqId) (k : FaultKind) (s : State) : (s.fault r k).free = s.free := by
  obtain ⟨_, _, h⟩ := fault_shape _ _ s; rw [h]
@[simp] theorem fault_pending (r : ReqId) (k : FaultKind) (s : State) : (s.fault r k).pending = s.pending := by
  obtain ⟨_, _, h⟩ := fault_shape _ _ s; rw [h]

/-- A drain that completes changes the table, the Drain List and the events (07 R131). -/
theorem completeDrain_shape (i : EntryIx) (s : State) :
    ∃ x0 x6 x9, s.completeDrain i = { s with store := x0, drain := x6, errors := x9 } := by
  exact ⟨_, _, _, rfl⟩
@[simp] theorem completeDrain_port (i : EntryIx) (s : State) : (s.completeDrain i).port = s.port := by
  obtain ⟨_, _, _, h⟩ := completeDrain_shape _ s; rw [h]
@[simp] theorem completeDrain_requesters (i : EntryIx) (s : State) : (s.completeDrain i).requesters = s.requesters := by
  obtain ⟨_, _, _, h⟩ := completeDrain_shape _ s; rw [h]
@[simp] theorem completeDrain_claims (i : EntryIx) (s : State) : (s.completeDrain i).claims = s.claims := by
  obtain ⟨_, _, _, h⟩ := completeDrain_shape _ s; rw [h]
@[simp] theorem completeDrain_queue (i : EntryIx) (s : State) : (s.completeDrain i).queue = s.queue := by
  obtain ⟨_, _, _, h⟩ := completeDrain_shape _ s; rw [h]
@[simp] theorem completeDrain_batch (i : EntryIx) (s : State) : (s.completeDrain i).batch = s.batch := by
  obtain ⟨_, _, _, h⟩ := completeDrain_shape _ s; rw [h]
@[simp] theorem completeDrain_freeze (i : EntryIx) (s : State) : (s.completeDrain i).freeze = s.freeze := by
  obtain ⟨_, _, _, h⟩ := completeDrain_shape _ s; rw [h]
@[simp] theorem completeDrain_sweep (i : EntryIx) (s : State) : (s.completeDrain i).sweep = s.sweep := by
  obtain ⟨_, _, _, h⟩ := completeDrain_shape _ s; rw [h]
@[simp] theorem completeDrain_settings (i : EntryIx) (s : State) : (s.completeDrain i).settings = s.settings := by
  obtain ⟨_, _, _, h⟩ := completeDrain_shape _ s; rw [h]
@[simp] theorem completeDrain_mgmt (i : EntryIx) (s : State) : (s.completeDrain i).mgmt = s.mgmt := by
  obtain ⟨_, _, _, h⟩ := completeDrain_shape _ s; rw [h]
@[simp] theorem completeDrain_loader (i : EntryIx) (s : State) : (s.completeDrain i).loader = s.loader := by
  obtain ⟨_, _, _, h⟩ := completeDrain_shape _ s; rw [h]
@[simp] theorem completeDrain_board (i : EntryIx) (s : State) : (s.completeDrain i).board = s.board := by
  obtain ⟨_, _, _, h⟩ := completeDrain_shape _ s; rw [h]
@[simp] theorem completeDrain_resetLow (i : EntryIx) (s : State) : (s.completeDrain i).resetLow = s.resetLow := by
  obtain ⟨_, _, _, h⟩ := completeDrain_shape _ s; rw [h]
@[simp] theorem completeDrain_loads (i : EntryIx) (s : State) : (s.completeDrain i).loads = s.loads := by
  obtain ⟨_, _, _, h⟩ := completeDrain_shape _ s; rw [h]
@[simp] theorem completeDrain_now (i : EntryIx) (s : State) : (s.completeDrain i).now = s.now := by
  obtain ⟨_, _, _, h⟩ := completeDrain_shape _ s; rw [h]
@[simp] theorem completeDrain_free (i : EntryIx) (s : State) : (s.completeDrain i).free = s.free := by
  obtain ⟨_, _, _, h⟩ := completeDrain_shape _ s; rw [h]
@[simp] theorem completeDrain_pending (i : EntryIx) (s : State) : (s.completeDrain i).pending = s.pending := by
  obtain ⟨_, _, _, h⟩ := completeDrain_shape _ s; rw [h]

/-- A lowered claim count changes the table, and at the end of a drain the Drain List and the events (04 R80). -/
theorem lowerCount_shape (i : EntryIx) (s : State) :
    ∃ x0 x6 x9 x16, s.lowerCount i = { s with store := x0, drain := x6, errors := x9, free := x16 } := by
  unfold State.lowerCount
  dsimp only
  split
  · obtain ⟨_, _, _, h⟩ := completeDrain_shape i { s.putEntry i { s.entry i with claimCount := lowered (s.entry i).claimCount s.free } with free := if (s.entry i).claimCount.val = 0 then (s.putEntry i { s.entry i with claimCount := lowered (s.entry i).claimCount s.free }).free + 1 else (s.putEntry i { s.entry i with claimCount := lowered (s.entry i).claimCount s.free }).free }
    rw [h]
    exact ⟨_, _, _, _, rfl⟩
  · exact ⟨_, _, _, _, rfl⟩
@[simp] theorem lowerCount_port (i : EntryIx) (s : State) : (s.lowerCount i).port = s.port := by
  obtain ⟨_, _, _, _, h⟩ := lowerCount_shape _ s; rw [h]
@[simp] theorem lowerCount_requesters (i : EntryIx) (s : State) : (s.lowerCount i).requesters = s.requesters := by
  obtain ⟨_, _, _, _, h⟩ := lowerCount_shape _ s; rw [h]
@[simp] theorem lowerCount_claims (i : EntryIx) (s : State) : (s.lowerCount i).claims = s.claims := by
  obtain ⟨_, _, _, _, h⟩ := lowerCount_shape _ s; rw [h]
@[simp] theorem lowerCount_queue (i : EntryIx) (s : State) : (s.lowerCount i).queue = s.queue := by
  obtain ⟨_, _, _, _, h⟩ := lowerCount_shape _ s; rw [h]
@[simp] theorem lowerCount_batch (i : EntryIx) (s : State) : (s.lowerCount i).batch = s.batch := by
  obtain ⟨_, _, _, _, h⟩ := lowerCount_shape _ s; rw [h]
@[simp] theorem lowerCount_freeze (i : EntryIx) (s : State) : (s.lowerCount i).freeze = s.freeze := by
  obtain ⟨_, _, _, _, h⟩ := lowerCount_shape _ s; rw [h]
@[simp] theorem lowerCount_sweep (i : EntryIx) (s : State) : (s.lowerCount i).sweep = s.sweep := by
  obtain ⟨_, _, _, _, h⟩ := lowerCount_shape _ s; rw [h]
@[simp] theorem lowerCount_settings (i : EntryIx) (s : State) : (s.lowerCount i).settings = s.settings := by
  obtain ⟨_, _, _, _, h⟩ := lowerCount_shape _ s; rw [h]
@[simp] theorem lowerCount_mgmt (i : EntryIx) (s : State) : (s.lowerCount i).mgmt = s.mgmt := by
  obtain ⟨_, _, _, _, h⟩ := lowerCount_shape _ s; rw [h]
@[simp] theorem lowerCount_loader (i : EntryIx) (s : State) : (s.lowerCount i).loader = s.loader := by
  obtain ⟨_, _, _, _, h⟩ := lowerCount_shape _ s; rw [h]
@[simp] theorem lowerCount_board (i : EntryIx) (s : State) : (s.lowerCount i).board = s.board := by
  obtain ⟨_, _, _, _, h⟩ := lowerCount_shape _ s; rw [h]
@[simp] theorem lowerCount_resetLow (i : EntryIx) (s : State) : (s.lowerCount i).resetLow = s.resetLow := by
  obtain ⟨_, _, _, _, h⟩ := lowerCount_shape _ s; rw [h]
@[simp] theorem lowerCount_loads (i : EntryIx) (s : State) : (s.lowerCount i).loads = s.loads := by
  obtain ⟨_, _, _, _, h⟩ := lowerCount_shape _ s; rw [h]
@[simp] theorem lowerCount_now (i : EntryIx) (s : State) : (s.lowerCount i).now = s.now := by
  obtain ⟨_, _, _, _, h⟩ := lowerCount_shape _ s; rw [h]
@[simp] theorem lowerCount_pending (i : EntryIx) (s : State) : (s.lowerCount i).pending = s.pending := by
  obtain ⟨_, _, _, _, h⟩ := lowerCount_shape _ s; rw [h]

/-- A raised claim count changes the table (04 R68). -/
theorem raiseCount_shape (i : EntryIx) (s : State) :
    ∃ x0 x16, s.raiseCount i = { s with store := x0, free := x16 } := by
  exact ⟨_, _, rfl⟩
@[simp] theorem raiseCount_port (i : EntryIx) (s : State) : (s.raiseCount i).port = s.port := by
  obtain ⟨_, _, h⟩ := raiseCount_shape _ s; rw [h]
@[simp] theorem raiseCount_requesters (i : EntryIx) (s : State) : (s.raiseCount i).requesters = s.requesters := by
  obtain ⟨_, _, h⟩ := raiseCount_shape _ s; rw [h]
@[simp] theorem raiseCount_claims (i : EntryIx) (s : State) : (s.raiseCount i).claims = s.claims := by
  obtain ⟨_, _, h⟩ := raiseCount_shape _ s; rw [h]
@[simp] theorem raiseCount_queue (i : EntryIx) (s : State) : (s.raiseCount i).queue = s.queue := by
  obtain ⟨_, _, h⟩ := raiseCount_shape _ s; rw [h]
@[simp] theorem raiseCount_batch (i : EntryIx) (s : State) : (s.raiseCount i).batch = s.batch := by
  obtain ⟨_, _, h⟩ := raiseCount_shape _ s; rw [h]
@[simp] theorem raiseCount_drain (i : EntryIx) (s : State) : (s.raiseCount i).drain = s.drain := by
  obtain ⟨_, _, h⟩ := raiseCount_shape _ s; rw [h]
@[simp] theorem raiseCount_freeze (i : EntryIx) (s : State) : (s.raiseCount i).freeze = s.freeze := by
  obtain ⟨_, _, h⟩ := raiseCount_shape _ s; rw [h]
@[simp] theorem raiseCount_sweep (i : EntryIx) (s : State) : (s.raiseCount i).sweep = s.sweep := by
  obtain ⟨_, _, h⟩ := raiseCount_shape _ s; rw [h]
@[simp] theorem raiseCount_errors (i : EntryIx) (s : State) : (s.raiseCount i).errors = s.errors := by
  obtain ⟨_, _, h⟩ := raiseCount_shape _ s; rw [h]
@[simp] theorem raiseCount_settings (i : EntryIx) (s : State) : (s.raiseCount i).settings = s.settings := by
  obtain ⟨_, _, h⟩ := raiseCount_shape _ s; rw [h]
@[simp] theorem raiseCount_mgmt (i : EntryIx) (s : State) : (s.raiseCount i).mgmt = s.mgmt := by
  obtain ⟨_, _, h⟩ := raiseCount_shape _ s; rw [h]
@[simp] theorem raiseCount_loader (i : EntryIx) (s : State) : (s.raiseCount i).loader = s.loader := by
  obtain ⟨_, _, h⟩ := raiseCount_shape _ s; rw [h]
@[simp] theorem raiseCount_board (i : EntryIx) (s : State) : (s.raiseCount i).board = s.board := by
  obtain ⟨_, _, h⟩ := raiseCount_shape _ s; rw [h]
@[simp] theorem raiseCount_resetLow (i : EntryIx) (s : State) : (s.raiseCount i).resetLow = s.resetLow := by
  obtain ⟨_, _, h⟩ := raiseCount_shape _ s; rw [h]
@[simp] theorem raiseCount_loads (i : EntryIx) (s : State) : (s.raiseCount i).loads = s.loads := by
  obtain ⟨_, _, h⟩ := raiseCount_shape _ s; rw [h]
@[simp] theorem raiseCount_now (i : EntryIx) (s : State) : (s.raiseCount i).now = s.now := by
  obtain ⟨_, _, h⟩ := raiseCount_shape _ s; rw [h]
@[simp] theorem raiseCount_pending (i : EntryIx) (s : State) : (s.raiseCount i).pending = s.pending := by
  obtain ⟨_, _, h⟩ := raiseCount_shape _ s; rw [h]

/-- Freeing a claim changes the records, and what a lowered claim count changes (04 R78). -/
theorem freeClaim_shape (t : Tag) (s : State) :
    ∃ x0 x3 x6 x9 x16, s.freeClaim t = { s with store := x0, claims := x3, drain := x6, errors := x9, free := x16 } := by
  unfold State.freeClaim
  split
  · exact ⟨_, _, _, _, _, rfl⟩
  · exact ⟨_, _, _, _, _, rfl⟩
  · rename_i c _
    obtain ⟨_, _, _, _, h⟩ := lowerCount_shape c.entry (s.putClaim t .free)
    rw [h]
    exact ⟨_, _, _, _, _, rfl⟩
@[simp] theorem freeClaim_port (t : Tag) (s : State) : (s.freeClaim t).port = s.port := by
  obtain ⟨_, _, _, _, _, h⟩ := freeClaim_shape _ s; rw [h]
@[simp] theorem freeClaim_requesters (t : Tag) (s : State) : (s.freeClaim t).requesters = s.requesters := by
  obtain ⟨_, _, _, _, _, h⟩ := freeClaim_shape _ s; rw [h]
@[simp] theorem freeClaim_queue (t : Tag) (s : State) : (s.freeClaim t).queue = s.queue := by
  obtain ⟨_, _, _, _, _, h⟩ := freeClaim_shape _ s; rw [h]
@[simp] theorem freeClaim_batch (t : Tag) (s : State) : (s.freeClaim t).batch = s.batch := by
  obtain ⟨_, _, _, _, _, h⟩ := freeClaim_shape _ s; rw [h]
@[simp] theorem freeClaim_freeze (t : Tag) (s : State) : (s.freeClaim t).freeze = s.freeze := by
  obtain ⟨_, _, _, _, _, h⟩ := freeClaim_shape _ s; rw [h]
@[simp] theorem freeClaim_sweep (t : Tag) (s : State) : (s.freeClaim t).sweep = s.sweep := by
  obtain ⟨_, _, _, _, _, h⟩ := freeClaim_shape _ s; rw [h]
@[simp] theorem freeClaim_settings (t : Tag) (s : State) : (s.freeClaim t).settings = s.settings := by
  obtain ⟨_, _, _, _, _, h⟩ := freeClaim_shape _ s; rw [h]
@[simp] theorem freeClaim_mgmt (t : Tag) (s : State) : (s.freeClaim t).mgmt = s.mgmt := by
  obtain ⟨_, _, _, _, _, h⟩ := freeClaim_shape _ s; rw [h]
@[simp] theorem freeClaim_loader (t : Tag) (s : State) : (s.freeClaim t).loader = s.loader := by
  obtain ⟨_, _, _, _, _, h⟩ := freeClaim_shape _ s; rw [h]
@[simp] theorem freeClaim_board (t : Tag) (s : State) : (s.freeClaim t).board = s.board := by
  obtain ⟨_, _, _, _, _, h⟩ := freeClaim_shape _ s; rw [h]
@[simp] theorem freeClaim_resetLow (t : Tag) (s : State) : (s.freeClaim t).resetLow = s.resetLow := by
  obtain ⟨_, _, _, _, _, h⟩ := freeClaim_shape _ s; rw [h]
@[simp] theorem freeClaim_loads (t : Tag) (s : State) : (s.freeClaim t).loads = s.loads := by
  obtain ⟨_, _, _, _, _, h⟩ := freeClaim_shape _ s; rw [h]
@[simp] theorem freeClaim_now (t : Tag) (s : State) : (s.freeClaim t).now = s.now := by
  obtain ⟨_, _, _, _, _, h⟩ := freeClaim_shape _ s; rw [h]
@[simp] theorem freeClaim_pending (t : Tag) (s : State) : (s.freeClaim t).pending = s.pending := by
  obtain ⟨_, _, _, _, _, h⟩ := freeClaim_shape _ s; rw [h]

/-- Emptying a slot with the claim it carries (05 R98). -/
theorem dropSlot_shape (k : SlotIx) (s : State) :
    ∃ x0 x3 x4 x6 x9 x16, s.dropSlot k = { s with store := x0, claims := x3, queue := x4, drain := x6, errors := x9, free := x16 } := by
  unfold State.dropSlot
  split
  · rename_i t _
    obtain ⟨_, _, _, _, _, h⟩ := freeClaim_shape t (s.putSlot k .empty)
    rw [h]
    exact ⟨_, _, _, _, _, _, rfl⟩
  · exact ⟨_, _, _, _, _, _, rfl⟩

/-- A fold over slots keeps a property each turn keeps. -/
theorem foldl_keeps {α : Type} {p : State → Prop} {g : State → α → State} (h : ∀ s k, p s → p (g s k)) (l : List α)
    {s : State} (hs : p s) : p (l.foldl g s) := by
  induction l generalizing s with
  | nil => exact hs
  | cons k l ih => exact ih (h s k hs)

/-- Emptying every slot of a requester (05 R98). -/
theorem dropSlotsOf_shape (r : ReqId) (s : State) :
    ∃ x0 x3 x4 x6 x9 x16, s.dropSlotsOf r = { s with store := x0, claims := x3, queue := x4, drain := x6, errors := x9, free := x16 } := by
  unfold State.dropSlotsOf
  refine foldl_keeps (p := fun u => ∃ x0 x3 x4 x6 x9 x16, u = { s with store := x0, claims := x3, queue := x4, drain := x6, errors := x9, free := x16 }) ?_ _ ⟨_, _, _, _, _, _, rfl⟩
  rintro u k ⟨_, _, _, _, _, _, hu⟩
  split
  · obtain ⟨_, _, _, _, _, _, h⟩ := dropSlot_shape k u
    rw [h, hu]
    exact ⟨_, _, _, _, _, _, rfl⟩
  · exact ⟨_, _, _, _, _, _, hu⟩
@[simp] theorem dropSlotsOf_port (r : ReqId) (s : State) : (s.dropSlotsOf r).port = s.port := by
  obtain ⟨_, _, _, _, _, _, h⟩ := dropSlotsOf_shape _ s; rw [h]
@[simp] theorem dropSlotsOf_requesters (r : ReqId) (s : State) : (s.dropSlotsOf r).requesters = s.requesters := by
  obtain ⟨_, _, _, _, _, _, h⟩ := dropSlotsOf_shape _ s; rw [h]
@[simp] theorem dropSlotsOf_batch (r : ReqId) (s : State) : (s.dropSlotsOf r).batch = s.batch := by
  obtain ⟨_, _, _, _, _, _, h⟩ := dropSlotsOf_shape _ s; rw [h]
@[simp] theorem dropSlotsOf_freeze (r : ReqId) (s : State) : (s.dropSlotsOf r).freeze = s.freeze := by
  obtain ⟨_, _, _, _, _, _, h⟩ := dropSlotsOf_shape _ s; rw [h]
@[simp] theorem dropSlotsOf_sweep (r : ReqId) (s : State) : (s.dropSlotsOf r).sweep = s.sweep := by
  obtain ⟨_, _, _, _, _, _, h⟩ := dropSlotsOf_shape _ s; rw [h]
@[simp] theorem dropSlotsOf_settings (r : ReqId) (s : State) : (s.dropSlotsOf r).settings = s.settings := by
  obtain ⟨_, _, _, _, _, _, h⟩ := dropSlotsOf_shape _ s; rw [h]
@[simp] theorem dropSlotsOf_mgmt (r : ReqId) (s : State) : (s.dropSlotsOf r).mgmt = s.mgmt := by
  obtain ⟨_, _, _, _, _, _, h⟩ := dropSlotsOf_shape _ s; rw [h]
@[simp] theorem dropSlotsOf_loader (r : ReqId) (s : State) : (s.dropSlotsOf r).loader = s.loader := by
  obtain ⟨_, _, _, _, _, _, h⟩ := dropSlotsOf_shape _ s; rw [h]
@[simp] theorem dropSlotsOf_board (r : ReqId) (s : State) : (s.dropSlotsOf r).board = s.board := by
  obtain ⟨_, _, _, _, _, _, h⟩ := dropSlotsOf_shape _ s; rw [h]
@[simp] theorem dropSlotsOf_resetLow (r : ReqId) (s : State) : (s.dropSlotsOf r).resetLow = s.resetLow := by
  obtain ⟨_, _, _, _, _, _, h⟩ := dropSlotsOf_shape _ s; rw [h]
@[simp] theorem dropSlotsOf_loads (r : ReqId) (s : State) : (s.dropSlotsOf r).loads = s.loads := by
  obtain ⟨_, _, _, _, _, _, h⟩ := dropSlotsOf_shape _ s; rw [h]
@[simp] theorem dropSlotsOf_now (r : ReqId) (s : State) : (s.dropSlotsOf r).now = s.now := by
  obtain ⟨_, _, _, _, _, _, h⟩ := dropSlotsOf_shape _ s; rw [h]
@[simp] theorem dropSlotsOf_pending (r : ReqId) (s : State) : (s.dropSlotsOf r).pending = s.pending := by
  obtain ⟨_, _, _, _, _, _, h⟩ := dropSlotsOf_shape _ s; rw [h]

/-- The forced or expired end of a drain (07 R132, R133). -/
theorem endDrain_shape (i : EntryIx) (s : State) :
    ∃ x0 x3 x4 x6, s.endDrain i = { s with store := x0, claims := x3, queue := x4, drain := x6 } := by
  exact ⟨_, _, _, _, rfl⟩
@[simp] theorem endDrain_port (i : EntryIx) (s : State) : (s.endDrain i).port = s.port := by
  obtain ⟨_, _, _, _, h⟩ := endDrain_shape _ s; rw [h]
@[simp] theorem endDrain_requesters (i : EntryIx) (s : State) : (s.endDrain i).requesters = s.requesters := by
  obtain ⟨_, _, _, _, h⟩ := endDrain_shape _ s; rw [h]
@[simp] theorem endDrain_batch (i : EntryIx) (s : State) : (s.endDrain i).batch = s.batch := by
  obtain ⟨_, _, _, _, h⟩ := endDrain_shape _ s; rw [h]
@[simp] theorem endDrain_freeze (i : EntryIx) (s : State) : (s.endDrain i).freeze = s.freeze := by
  obtain ⟨_, _, _, _, h⟩ := endDrain_shape _ s; rw [h]
@[simp] theorem endDrain_sweep (i : EntryIx) (s : State) : (s.endDrain i).sweep = s.sweep := by
  obtain ⟨_, _, _, _, h⟩ := endDrain_shape _ s; rw [h]
@[simp] theorem endDrain_errors (i : EntryIx) (s : State) : (s.endDrain i).errors = s.errors := by
  obtain ⟨_, _, _, _, h⟩ := endDrain_shape _ s; rw [h]
@[simp] theorem endDrain_settings (i : EntryIx) (s : State) : (s.endDrain i).settings = s.settings := by
  obtain ⟨_, _, _, _, h⟩ := endDrain_shape _ s; rw [h]
@[simp] theorem endDrain_mgmt (i : EntryIx) (s : State) : (s.endDrain i).mgmt = s.mgmt := by
  obtain ⟨_, _, _, _, h⟩ := endDrain_shape _ s; rw [h]
@[simp] theorem endDrain_loader (i : EntryIx) (s : State) : (s.endDrain i).loader = s.loader := by
  obtain ⟨_, _, _, _, h⟩ := endDrain_shape _ s; rw [h]
@[simp] theorem endDrain_board (i : EntryIx) (s : State) : (s.endDrain i).board = s.board := by
  obtain ⟨_, _, _, _, h⟩ := endDrain_shape _ s; rw [h]
@[simp] theorem endDrain_resetLow (i : EntryIx) (s : State) : (s.endDrain i).resetLow = s.resetLow := by
  obtain ⟨_, _, _, _, h⟩ := endDrain_shape _ s; rw [h]
@[simp] theorem endDrain_loads (i : EntryIx) (s : State) : (s.endDrain i).loads = s.loads := by
  obtain ⟨_, _, _, _, h⟩ := endDrain_shape _ s; rw [h]
@[simp] theorem endDrain_now (i : EntryIx) (s : State) : (s.endDrain i).now = s.now := by
  obtain ⟨_, _, _, _, h⟩ := endDrain_shape _ s; rw [h]
@[simp] theorem endDrain_free (i : EntryIx) (s : State) : (s.endDrain i).free = s.free := by
  obtain ⟨_, _, _, _, h⟩ := endDrain_shape _ s; rw [h]
@[simp] theorem endDrain_pending (i : EntryIx) (s : State) : (s.endDrain i).pending = s.pending := by
  obtain ⟨_, _, _, _, h⟩ := endDrain_shape _ s; rw [h]

/-! ### 09: Walk.lean -/

/-- Poisoned found (09 R153). -/
theorem countPoisoned_shape (s : State) :
    ∃ x8, s.countPoisoned = { s with sweep := x8 } := by
  exact ⟨_, rfl⟩

/-- The domain of a sweep becomes OPEN (09 R151). -/
theorem reopen_shape (k : WalkKind) (s : State) :
    ∃ x2, s.reopen k = { s with requesters := x2 } := by
  unfold State.reopen
  split
  · exact ⟨_, rfl⟩
  · exact ⟨_, rfl⟩

/-- The end of a walk (09 R160, R161). -/
theorem endWalk_shape (w : Walk) (x : WalkEnd) (s : State) :
    ∃ x2 x8 x9, s.endWalk w x = { s with requesters := x2, sweep := x8, errors := x9 } := by
  obtain ⟨_, h⟩ := reopen_shape w.kind s
  unfold State.endWalk
  rw [h]
  exact ⟨_, _, _, rfl⟩
@[simp] theorem endWalk_store (w : Walk) (x : WalkEnd) (s : State) : (s.endWalk w x).store = s.store := by
  obtain ⟨_, _, _, h⟩ := endWalk_shape _ _ s; rw [h]
@[simp] theorem endWalk_port (w : Walk) (x : WalkEnd) (s : State) : (s.endWalk w x).port = s.port := by
  obtain ⟨_, _, _, h⟩ := endWalk_shape _ _ s; rw [h]
@[simp] theorem endWalk_claims (w : Walk) (x : WalkEnd) (s : State) : (s.endWalk w x).claims = s.claims := by
  obtain ⟨_, _, _, h⟩ := endWalk_shape _ _ s; rw [h]
@[simp] theorem endWalk_queue (w : Walk) (x : WalkEnd) (s : State) : (s.endWalk w x).queue = s.queue := by
  obtain ⟨_, _, _, h⟩ := endWalk_shape _ _ s; rw [h]
@[simp] theorem endWalk_batch (w : Walk) (x : WalkEnd) (s : State) : (s.endWalk w x).batch = s.batch := by
  obtain ⟨_, _, _, h⟩ := endWalk_shape _ _ s; rw [h]
@[simp] theorem endWalk_drain (w : Walk) (x : WalkEnd) (s : State) : (s.endWalk w x).drain = s.drain := by
  obtain ⟨_, _, _, h⟩ := endWalk_shape _ _ s; rw [h]
@[simp] theorem endWalk_freeze (w : Walk) (x : WalkEnd) (s : State) : (s.endWalk w x).freeze = s.freeze := by
  obtain ⟨_, _, _, h⟩ := endWalk_shape _ _ s; rw [h]
@[simp] theorem endWalk_settings (w : Walk) (x : WalkEnd) (s : State) : (s.endWalk w x).settings = s.settings := by
  obtain ⟨_, _, _, h⟩ := endWalk_shape _ _ s; rw [h]
@[simp] theorem endWalk_mgmt (w : Walk) (x : WalkEnd) (s : State) : (s.endWalk w x).mgmt = s.mgmt := by
  obtain ⟨_, _, _, h⟩ := endWalk_shape _ _ s; rw [h]
@[simp] theorem endWalk_loader (w : Walk) (x : WalkEnd) (s : State) : (s.endWalk w x).loader = s.loader := by
  obtain ⟨_, _, _, h⟩ := endWalk_shape _ _ s; rw [h]
@[simp] theorem endWalk_board (w : Walk) (x : WalkEnd) (s : State) : (s.endWalk w x).board = s.board := by
  obtain ⟨_, _, _, h⟩ := endWalk_shape _ _ s; rw [h]
@[simp] theorem endWalk_resetLow (w : Walk) (x : WalkEnd) (s : State) : (s.endWalk w x).resetLow = s.resetLow := by
  obtain ⟨_, _, _, h⟩ := endWalk_shape _ _ s; rw [h]
@[simp] theorem endWalk_loads (w : Walk) (x : WalkEnd) (s : State) : (s.endWalk w x).loads = s.loads := by
  obtain ⟨_, _, _, h⟩ := endWalk_shape _ _ s; rw [h]
@[simp] theorem endWalk_now (w : Walk) (x : WalkEnd) (s : State) : (s.endWalk w x).now = s.now := by
  obtain ⟨_, _, _, h⟩ := endWalk_shape _ _ s; rw [h]
@[simp] theorem endWalk_free (w : Walk) (x : WalkEnd) (s : State) : (s.endWalk w x).free = s.free := by
  obtain ⟨_, _, _, h⟩ := endWalk_shape _ _ s; rw [h]
@[simp] theorem endWalk_pending (w : Walk) (x : WalkEnd) (s : State) : (s.endWalk w x).pending = s.pending := by
  obtain ⟨_, _, _, h⟩ := endWalk_shape _ _ s; rw [h]

/-- The cursor moves on (09 R158, R161). -/
theorem advance_shape (w : Walk) (n : Nat) (s : State) :
    ∃ x2 x8 x9, s.advance w n = { s with requesters := x2, sweep := x8, errors := x9 } := by
  unfold State.advance
  dsimp only
  split
  · obtain ⟨_, _, _, h⟩ := endWalk_shape w .complete (s.updateReport (fun r => { r with cursor := n }))
    rw [h]
    exact ⟨_, _, _, rfl⟩
  · split
    · obtain ⟨_, _, _, h⟩ := endWalk_shape w .cancelled (s.updateReport (fun r => { r with cursor := n }))
      rw [h]
      exact ⟨_, _, _, rfl⟩
    · exact ⟨_, _, _, rfl⟩
    · exact ⟨_, _, _, rfl⟩
@[simp] theorem advance_store (w : Walk) (n : Nat) (s : State) : (s.advance w n).store = s.store := by
  obtain ⟨_, _, _, h⟩ := advance_shape _ _ s; rw [h]
@[simp] theorem advance_port (w : Walk) (n : Nat) (s : State) : (s.advance w n).port = s.port := by
  obtain ⟨_, _, _, h⟩ := advance_shape _ _ s; rw [h]
@[simp] theorem advance_claims (w : Walk) (n : Nat) (s : State) : (s.advance w n).claims = s.claims := by
  obtain ⟨_, _, _, h⟩ := advance_shape _ _ s; rw [h]
@[simp] theorem advance_queue (w : Walk) (n : Nat) (s : State) : (s.advance w n).queue = s.queue := by
  obtain ⟨_, _, _, h⟩ := advance_shape _ _ s; rw [h]
@[simp] theorem advance_batch (w : Walk) (n : Nat) (s : State) : (s.advance w n).batch = s.batch := by
  obtain ⟨_, _, _, h⟩ := advance_shape _ _ s; rw [h]
@[simp] theorem advance_drain (w : Walk) (n : Nat) (s : State) : (s.advance w n).drain = s.drain := by
  obtain ⟨_, _, _, h⟩ := advance_shape _ _ s; rw [h]
@[simp] theorem advance_freeze (w : Walk) (n : Nat) (s : State) : (s.advance w n).freeze = s.freeze := by
  obtain ⟨_, _, _, h⟩ := advance_shape _ _ s; rw [h]
@[simp] theorem advance_settings (w : Walk) (n : Nat) (s : State) : (s.advance w n).settings = s.settings := by
  obtain ⟨_, _, _, h⟩ := advance_shape _ _ s; rw [h]
@[simp] theorem advance_mgmt (w : Walk) (n : Nat) (s : State) : (s.advance w n).mgmt = s.mgmt := by
  obtain ⟨_, _, _, h⟩ := advance_shape _ _ s; rw [h]
@[simp] theorem advance_loader (w : Walk) (n : Nat) (s : State) : (s.advance w n).loader = s.loader := by
  obtain ⟨_, _, _, h⟩ := advance_shape _ _ s; rw [h]
@[simp] theorem advance_board (w : Walk) (n : Nat) (s : State) : (s.advance w n).board = s.board := by
  obtain ⟨_, _, _, h⟩ := advance_shape _ _ s; rw [h]
@[simp] theorem advance_resetLow (w : Walk) (n : Nat) (s : State) : (s.advance w n).resetLow = s.resetLow := by
  obtain ⟨_, _, _, h⟩ := advance_shape _ _ s; rw [h]
@[simp] theorem advance_loads (w : Walk) (n : Nat) (s : State) : (s.advance w n).loads = s.loads := by
  obtain ⟨_, _, _, h⟩ := advance_shape _ _ s; rw [h]
@[simp] theorem advance_now (w : Walk) (n : Nat) (s : State) : (s.advance w n).now = s.now := by
  obtain ⟨_, _, _, h⟩ := advance_shape _ _ s; rw [h]
@[simp] theorem advance_free (w : Walk) (n : Nat) (s : State) : (s.advance w n).free = s.free := by
  obtain ⟨_, _, _, h⟩ := advance_shape _ _ s; rw [h]
@[simp] theorem advance_pending (w : Walk) (n : Nat) (s : State) : (s.advance w n).pending = s.pending := by
  obtain ⟨_, _, _, h⟩ := advance_shape _ _ s; rw [h]

/-- A step that lacks a drain item (09 R153, R158). -/
theorem lackItem_shape (w : Walk) (s : State) :
    ∃ x2 x8 x9, s.lackItem w = { s with requesters := x2, sweep := x8, errors := x9 } := by
  unfold State.lackItem
  split
  · exact endWalk_shape w .cancelled s
  · exact ⟨_, _, _, rfl⟩
  · exact ⟨_, _, _, rfl⟩

/-- A sweep's write (09 R153, 05 R95). -/
theorem sweepWrite_shape (i : EntryIx) (c : Contents) (s : State) :
    ∃ x0 x4, s.sweepWrite i c = { s with store := x0, queue := x4 } := by
  exact ⟨_, _, rfl⟩
@[simp] theorem sweepWrite_port (i : EntryIx) (c : Contents) (s : State) : (s.sweepWrite i c).port = s.port := by
  obtain ⟨_, _, h⟩ := sweepWrite_shape _ _ s; rw [h]
@[simp] theorem sweepWrite_requesters (i : EntryIx) (c : Contents) (s : State) : (s.sweepWrite i c).requesters = s.requesters := by
  obtain ⟨_, _, h⟩ := sweepWrite_shape _ _ s; rw [h]
@[simp] theorem sweepWrite_claims (i : EntryIx) (c : Contents) (s : State) : (s.sweepWrite i c).claims = s.claims := by
  obtain ⟨_, _, h⟩ := sweepWrite_shape _ _ s; rw [h]
@[simp] theorem sweepWrite_batch (i : EntryIx) (c : Contents) (s : State) : (s.sweepWrite i c).batch = s.batch := by
  obtain ⟨_, _, h⟩ := sweepWrite_shape _ _ s; rw [h]
@[simp] theorem sweepWrite_drain (i : EntryIx) (c : Contents) (s : State) : (s.sweepWrite i c).drain = s.drain := by
  obtain ⟨_, _, h⟩ := sweepWrite_shape _ _ s; rw [h]
@[simp] theorem sweepWrite_freeze (i : EntryIx) (c : Contents) (s : State) : (s.sweepWrite i c).freeze = s.freeze := by
  obtain ⟨_, _, h⟩ := sweepWrite_shape _ _ s; rw [h]
@[simp] theorem sweepWrite_sweep (i : EntryIx) (c : Contents) (s : State) : (s.sweepWrite i c).sweep = s.sweep := by
  obtain ⟨_, _, h⟩ := sweepWrite_shape _ _ s; rw [h]
@[simp] theorem sweepWrite_errors (i : EntryIx) (c : Contents) (s : State) : (s.sweepWrite i c).errors = s.errors := by
  obtain ⟨_, _, h⟩ := sweepWrite_shape _ _ s; rw [h]
@[simp] theorem sweepWrite_settings (i : EntryIx) (c : Contents) (s : State) : (s.sweepWrite i c).settings = s.settings := by
  obtain ⟨_, _, h⟩ := sweepWrite_shape _ _ s; rw [h]
@[simp] theorem sweepWrite_mgmt (i : EntryIx) (c : Contents) (s : State) : (s.sweepWrite i c).mgmt = s.mgmt := by
  obtain ⟨_, _, h⟩ := sweepWrite_shape _ _ s; rw [h]
@[simp] theorem sweepWrite_loader (i : EntryIx) (c : Contents) (s : State) : (s.sweepWrite i c).loader = s.loader := by
  obtain ⟨_, _, h⟩ := sweepWrite_shape _ _ s; rw [h]
@[simp] theorem sweepWrite_board (i : EntryIx) (c : Contents) (s : State) : (s.sweepWrite i c).board = s.board := by
  obtain ⟨_, _, h⟩ := sweepWrite_shape _ _ s; rw [h]
@[simp] theorem sweepWrite_resetLow (i : EntryIx) (c : Contents) (s : State) : (s.sweepWrite i c).resetLow = s.resetLow := by
  obtain ⟨_, _, h⟩ := sweepWrite_shape _ _ s; rw [h]
@[simp] theorem sweepWrite_loads (i : EntryIx) (c : Contents) (s : State) : (s.sweepWrite i c).loads = s.loads := by
  obtain ⟨_, _, h⟩ := sweepWrite_shape _ _ s; rw [h]
@[simp] theorem sweepWrite_now (i : EntryIx) (c : Contents) (s : State) : (s.sweepWrite i c).now = s.now := by
  obtain ⟨_, _, h⟩ := sweepWrite_shape _ _ s; rw [h]
@[simp] theorem sweepWrite_free (i : EntryIx) (c : Contents) (s : State) : (s.sweepWrite i c).free = s.free := by
  obtain ⟨_, _, h⟩ := sweepWrite_shape _ _ s; rw [h]
@[simp] theorem sweepWrite_pending (i : EntryIx) (c : Contents) (s : State) : (s.sweepWrite i c).pending = s.pending := by
  obtain ⟨_, _, h⟩ := sweepWrite_shape _ _ s; rw [h]

/-- A domain sweep takes an entry (09 R153). -/
theorem sweepTake_shape (w : Walk) (d : Domain) (s : State) :
    ∃ x0 x2 x4 x6 x8 x9, s.sweepTake w d = { s with store := x0, requesters := x2, queue := x4, drain := x6, sweep := x8, errors := x9 } := by
  have ha : ∀ (n : Nat) (u : State), (∃ x0 x4 x6 x8 x9, u =
      { s with store := x0, queue := x4, drain := x6, sweep := x8, errors := x9 }) →
      ∃ x0 x2 x4 x6 x8 x9, u.advance w n =
        { s with store := x0, requesters := x2, queue := x4, drain := x6, sweep := x8, errors := x9 } := by
    rintro n u ⟨_, _, _, _, _, hu⟩
    obtain ⟨_, _, _, h⟩ := advance_shape w n u
    rw [h, hu]
    exact ⟨_, _, _, _, _, _, rfl⟩
  have hl : ∀ u : State, (∃ x0 x6 x9, u = { s with store := x0, drain := x6, errors := x9 }) →
      ∃ x0 x2 x4 x6 x8 x9, u.lackItem w =
        { s with store := x0, requesters := x2, queue := x4, drain := x6, sweep := x8, errors := x9 } := by
    rintro u ⟨_, _, _, hu⟩
    obtain ⟨_, _, _, h⟩ := lackItem_shape w u
    rw [h, hu]
    exact ⟨_, _, _, _, _, _, rfl⟩
  obtain ⟨_, _, _, hr⟩ := readEntry_shape .sweep w.cursor s
  unfold State.sweepTake
  dsimp only
  rw [hr]
  (repeat' split) <;> first
    | exact ha _ _ ⟨_, _, _, _, _, rfl⟩
    | exact hl _ ⟨_, _, _, rfl⟩
@[simp] theorem sweepTake_port (w : Walk) (d : Domain) (s : State) : (s.sweepTake w d).port = s.port := by
  obtain ⟨_, _, _, _, _, _, h⟩ := sweepTake_shape _ _ s; rw [h]
@[simp] theorem sweepTake_claims (w : Walk) (d : Domain) (s : State) : (s.sweepTake w d).claims = s.claims := by
  obtain ⟨_, _, _, _, _, _, h⟩ := sweepTake_shape _ _ s; rw [h]
@[simp] theorem sweepTake_batch (w : Walk) (d : Domain) (s : State) : (s.sweepTake w d).batch = s.batch := by
  obtain ⟨_, _, _, _, _, _, h⟩ := sweepTake_shape _ _ s; rw [h]
@[simp] theorem sweepTake_freeze (w : Walk) (d : Domain) (s : State) : (s.sweepTake w d).freeze = s.freeze := by
  obtain ⟨_, _, _, _, _, _, h⟩ := sweepTake_shape _ _ s; rw [h]
@[simp] theorem sweepTake_settings (w : Walk) (d : Domain) (s : State) : (s.sweepTake w d).settings = s.settings := by
  obtain ⟨_, _, _, _, _, _, h⟩ := sweepTake_shape _ _ s; rw [h]
@[simp] theorem sweepTake_mgmt (w : Walk) (d : Domain) (s : State) : (s.sweepTake w d).mgmt = s.mgmt := by
  obtain ⟨_, _, _, _, _, _, h⟩ := sweepTake_shape _ _ s; rw [h]
@[simp] theorem sweepTake_loader (w : Walk) (d : Domain) (s : State) : (s.sweepTake w d).loader = s.loader := by
  obtain ⟨_, _, _, _, _, _, h⟩ := sweepTake_shape _ _ s; rw [h]
@[simp] theorem sweepTake_board (w : Walk) (d : Domain) (s : State) : (s.sweepTake w d).board = s.board := by
  obtain ⟨_, _, _, _, _, _, h⟩ := sweepTake_shape _ _ s; rw [h]
@[simp] theorem sweepTake_resetLow (w : Walk) (d : Domain) (s : State) : (s.sweepTake w d).resetLow = s.resetLow := by
  obtain ⟨_, _, _, _, _, _, h⟩ := sweepTake_shape _ _ s; rw [h]
@[simp] theorem sweepTake_loads (w : Walk) (d : Domain) (s : State) : (s.sweepTake w d).loads = s.loads := by
  obtain ⟨_, _, _, _, _, _, h⟩ := sweepTake_shape _ _ s; rw [h]
@[simp] theorem sweepTake_now (w : Walk) (d : Domain) (s : State) : (s.sweepTake w d).now = s.now := by
  obtain ⟨_, _, _, _, _, _, h⟩ := sweepTake_shape _ _ s; rw [h]
@[simp] theorem sweepTake_free (w : Walk) (d : Domain) (s : State) : (s.sweepTake w d).free = s.free := by
  obtain ⟨_, _, _, _, _, _, h⟩ := sweepTake_shape _ _ s; rw [h]
@[simp] theorem sweepTake_pending (w : Walk) (d : Domain) (s : State) : (s.sweepTake w d).pending = s.pending := by
  obtain ⟨_, _, _, _, _, _, h⟩ := sweepTake_shape _ _ s; rw [h]

/-- A step of a domain sweep (09 R152). -/
theorem sweepStepOf_shape (w : Walk) (d : Domain) (s : State) :
    ∃ x0 x2 x4 x6 x8 x9, s.sweepStepOf w d = { s with store := x0, requesters := x2, queue := x4, drain := x6, sweep := x8, errors := x9 } := by
  unfold State.sweepStepOf
  split
  · obtain ⟨_, _, _, h⟩ := advance_shape w (w.cursor.val + 32)
      (s.updateReport (updateCounts (fun c => { c with skipped := c.skipped + 1 })))
    rw [h]
    exact ⟨_, _, _, _, _, _, rfl⟩
  · exact sweepTake_shape w d s

/-- A step of a scrub (09 R156). -/
theorem scrubStepOf_shape (w : Walk) (s : State) :
    ∃ x0 x2 x6 x8 x9, s.scrubStepOf w = { s with store := x0, requesters := x2, drain := x6, sweep := x8, errors := x9 } := by
  obtain ⟨_, _, _, hr⟩ := readEntry_shape .scrub w.cursor s
  unfold State.scrubStepOf
  dsimp only
  split
  · obtain ⟨_, _, _, h⟩ := advance_shape w (w.cursor.val + 1) (s.readEntry .scrub w.cursor).countPoisoned
    obtain ⟨_, hc⟩ := countPoisoned_shape (s.readEntry .scrub w.cursor)
    rw [h, hc, hr]
    exact ⟨_, _, _, _, _, rfl⟩
  · obtain ⟨_, _, _, h⟩ := advance_shape w (w.cursor.val + 1) (s.readEntry .scrub w.cursor)
    rw [h, hr]
    exact ⟨_, _, _, _, _, rfl⟩

/-- The retake of a waiting entry (09 R154). -/
theorem retake_shape (s : State) :
    ∃ x0 x2 x4 x6 x8 x9, s.retake = { s with store := x0, requesters := x2, queue := x4, drain := x6, sweep := x8, errors := x9 } := by
  unfold State.retake
  split
  · split
    · exact sweepTake_shape _ _ s
    · exact ⟨_, _, _, _, _, _, rfl⟩
  · exact ⟨_, _, _, _, _, _, rfl⟩
@[simp] theorem retake_port (s : State) : (s.retake).port = s.port := by
  obtain ⟨_, _, _, _, _, _, h⟩ := retake_shape s; rw [h]
@[simp] theorem retake_claims (s : State) : (s.retake).claims = s.claims := by
  obtain ⟨_, _, _, _, _, _, h⟩ := retake_shape s; rw [h]
@[simp] theorem retake_batch (s : State) : (s.retake).batch = s.batch := by
  obtain ⟨_, _, _, _, _, _, h⟩ := retake_shape s; rw [h]
@[simp] theorem retake_freeze (s : State) : (s.retake).freeze = s.freeze := by
  obtain ⟨_, _, _, _, _, _, h⟩ := retake_shape s; rw [h]
@[simp] theorem retake_settings (s : State) : (s.retake).settings = s.settings := by
  obtain ⟨_, _, _, _, _, _, h⟩ := retake_shape s; rw [h]
@[simp] theorem retake_mgmt (s : State) : (s.retake).mgmt = s.mgmt := by
  obtain ⟨_, _, _, _, _, _, h⟩ := retake_shape s; rw [h]
@[simp] theorem retake_loader (s : State) : (s.retake).loader = s.loader := by
  obtain ⟨_, _, _, _, _, _, h⟩ := retake_shape s; rw [h]
@[simp] theorem retake_board (s : State) : (s.retake).board = s.board := by
  obtain ⟨_, _, _, _, _, _, h⟩ := retake_shape s; rw [h]
@[simp] theorem retake_resetLow (s : State) : (s.retake).resetLow = s.resetLow := by
  obtain ⟨_, _, _, _, _, _, h⟩ := retake_shape s; rw [h]
@[simp] theorem retake_loads (s : State) : (s.retake).loads = s.loads := by
  obtain ⟨_, _, _, _, _, _, h⟩ := retake_shape s; rw [h]
@[simp] theorem retake_now (s : State) : (s.retake).now = s.now := by
  obtain ⟨_, _, _, _, _, _, h⟩ := retake_shape s; rw [h]
@[simp] theorem retake_free (s : State) : (s.retake).free = s.free := by
  obtain ⟨_, _, _, _, _, _, h⟩ := retake_shape s; rw [h]
@[simp] theorem retake_pending (s : State) : (s.retake).pending = s.pending := by
  obtain ⟨_, _, _, _, _, _, h⟩ := retake_shape s; rw [h]

/-- The end of an event that went from `t` to `s` changes no more than a retake does (09 R154). -/
theorem settle_of_shape (t : State) (s : State) :
    ∃ x0 x2 x4 x6 x8 x9, settle t s = { s with store := x0, requesters := x2, queue := x4, drain := x6, sweep := x8, errors := x9 } := by
  unfold settle
  split
  · split
    · exact retake_shape s
    · exact ⟨_, _, _, _, _, _, rfl⟩
  · exact ⟨_, _, _, _, _, _, rfl⟩
@[simp] theorem settle_of_port (t : State) (s : State) : (settle t s).port = s.port := by
  obtain ⟨_, _, _, _, _, _, h⟩ := settle_of_shape _ s; rw [h]
@[simp] theorem settle_of_claims (t : State) (s : State) : (settle t s).claims = s.claims := by
  obtain ⟨_, _, _, _, _, _, h⟩ := settle_of_shape _ s; rw [h]
@[simp] theorem settle_of_batch (t : State) (s : State) : (settle t s).batch = s.batch := by
  obtain ⟨_, _, _, _, _, _, h⟩ := settle_of_shape _ s; rw [h]
@[simp] theorem settle_of_freeze (t : State) (s : State) : (settle t s).freeze = s.freeze := by
  obtain ⟨_, _, _, _, _, _, h⟩ := settle_of_shape _ s; rw [h]
@[simp] theorem settle_of_settings (t : State) (s : State) : (settle t s).settings = s.settings := by
  obtain ⟨_, _, _, _, _, _, h⟩ := settle_of_shape _ s; rw [h]
@[simp] theorem settle_of_mgmt (t : State) (s : State) : (settle t s).mgmt = s.mgmt := by
  obtain ⟨_, _, _, _, _, _, h⟩ := settle_of_shape _ s; rw [h]
@[simp] theorem settle_of_loader (t : State) (s : State) : (settle t s).loader = s.loader := by
  obtain ⟨_, _, _, _, _, _, h⟩ := settle_of_shape _ s; rw [h]
@[simp] theorem settle_of_board (t : State) (s : State) : (settle t s).board = s.board := by
  obtain ⟨_, _, _, _, _, _, h⟩ := settle_of_shape _ s; rw [h]
@[simp] theorem settle_of_resetLow (t : State) (s : State) : (settle t s).resetLow = s.resetLow := by
  obtain ⟨_, _, _, _, _, _, h⟩ := settle_of_shape _ s; rw [h]
@[simp] theorem settle_of_loads (t : State) (s : State) : (settle t s).loads = s.loads := by
  obtain ⟨_, _, _, _, _, _, h⟩ := settle_of_shape _ s; rw [h]
@[simp] theorem settle_of_now (t : State) (s : State) : (settle t s).now = s.now := by
  obtain ⟨_, _, _, _, _, _, h⟩ := settle_of_shape _ s; rw [h]
@[simp] theorem settle_of_free (t : State) (s : State) : (settle t s).free = s.free := by
  obtain ⟨_, _, _, _, _, _, h⟩ := settle_of_shape _ s; rw [h]
@[simp] theorem settle_of_pending (t : State) (s : State) : (settle t s).pending = s.pending := by
  obtain ⟨_, _, _, _, _, _, h⟩ := settle_of_shape _ s; rw [h]

/-! ### 03, 05: Evaluate.lean, Resolve.lean -/

/-- Steps 9 and 10 (03 R57, R58). -/
theorem claimAndGrant_shape (q : Request) (i : EntryIx) (p : Placement) (s : State) :
    ∃ x0 x3 x16, (s.claimAndGrant q i p).1 = { s with store := x0, claims := x3, free := x16 } := by
  unfold State.claimAndGrant
  dsimp only
  split
  · exact ⟨_, _, _, rfl⟩
  · split
    · exact ⟨_, _, _, rfl⟩
    · exact ⟨_, _, _, rfl⟩

/-- Steps 6 to 10 (03 R54 to R58). -/
theorem entryTests_shape (q : Request) (i : EntryIx) (s : State) :
    ∃ x0 x3 x6 x9 x16, (s.entryTests q i).1 = { s with store := x0, claims := x3, drain := x6, errors := x9, free := x16 } := by
  obtain ⟨_, _, _, hr⟩ := readEntry_shape .resolve i s
  unfold State.entryTests
  dsimp only
  (repeat' split) <;>
    first
    | (rename_i p _ _ _ _
       obtain ⟨_, _, _, h⟩ := claimAndGrant_shape q i p (s.readEntry .resolve i)
       rw [h, hr]
       exact ⟨_, _, _, _, _, rfl⟩)
    | (rw [hr]
       exact ⟨_, _, _, _, _, rfl⟩)
@[simp] theorem entryTests_port (q : Request) (i : EntryIx) (s : State) : ((s.entryTests q i).1).port = s.port := by
  obtain ⟨_, _, _, _, _, h⟩ := entryTests_shape _ _ s; rw [h]
@[simp] theorem entryTests_requesters (q : Request) (i : EntryIx) (s : State) : ((s.entryTests q i).1).requesters = s.requesters := by
  obtain ⟨_, _, _, _, _, h⟩ := entryTests_shape _ _ s; rw [h]
@[simp] theorem entryTests_queue (q : Request) (i : EntryIx) (s : State) : ((s.entryTests q i).1).queue = s.queue := by
  obtain ⟨_, _, _, _, _, h⟩ := entryTests_shape _ _ s; rw [h]
@[simp] theorem entryTests_batch (q : Request) (i : EntryIx) (s : State) : ((s.entryTests q i).1).batch = s.batch := by
  obtain ⟨_, _, _, _, _, h⟩ := entryTests_shape _ _ s; rw [h]
@[simp] theorem entryTests_freeze (q : Request) (i : EntryIx) (s : State) : ((s.entryTests q i).1).freeze = s.freeze := by
  obtain ⟨_, _, _, _, _, h⟩ := entryTests_shape _ _ s; rw [h]
@[simp] theorem entryTests_sweep (q : Request) (i : EntryIx) (s : State) : ((s.entryTests q i).1).sweep = s.sweep := by
  obtain ⟨_, _, _, _, _, h⟩ := entryTests_shape _ _ s; rw [h]
@[simp] theorem entryTests_settings (q : Request) (i : EntryIx) (s : State) : ((s.entryTests q i).1).settings = s.settings := by
  obtain ⟨_, _, _, _, _, h⟩ := entryTests_shape _ _ s; rw [h]
@[simp] theorem entryTests_mgmt (q : Request) (i : EntryIx) (s : State) : ((s.entryTests q i).1).mgmt = s.mgmt := by
  obtain ⟨_, _, _, _, _, h⟩ := entryTests_shape _ _ s; rw [h]
@[simp] theorem entryTests_loader (q : Request) (i : EntryIx) (s : State) : ((s.entryTests q i).1).loader = s.loader := by
  obtain ⟨_, _, _, _, _, h⟩ := entryTests_shape _ _ s; rw [h]
@[simp] theorem entryTests_board (q : Request) (i : EntryIx) (s : State) : ((s.entryTests q i).1).board = s.board := by
  obtain ⟨_, _, _, _, _, h⟩ := entryTests_shape _ _ s; rw [h]
@[simp] theorem entryTests_resetLow (q : Request) (i : EntryIx) (s : State) : ((s.entryTests q i).1).resetLow = s.resetLow := by
  obtain ⟨_, _, _, _, _, h⟩ := entryTests_shape _ _ s; rw [h]
@[simp] theorem entryTests_loads (q : Request) (i : EntryIx) (s : State) : ((s.entryTests q i).1).loads = s.loads := by
  obtain ⟨_, _, _, _, _, h⟩ := entryTests_shape _ _ s; rw [h]
@[simp] theorem entryTests_now (q : Request) (i : EntryIx) (s : State) : ((s.entryTests q i).1).now = s.now := by
  obtain ⟨_, _, _, _, _, h⟩ := entryTests_shape _ _ s; rw [h]
@[simp] theorem entryTests_pending (q : Request) (i : EntryIx) (s : State) : ((s.entryTests q i).1).pending = s.pending := by
  obtain ⟨_, _, _, _, _, h⟩ := entryTests_shape _ _ s; rw [h]

/-- The evaluation for a waiting slot (03 R60). -/
theorem evaluate_shape (q : Request) (i : EntryIx) (s : State) :
    ∃ x0 x3 x6 x9 x16, (s.evaluate q i).1 = { s with store := x0, claims := x3, drain := x6, errors := x9, free := x16 } := by
  unfold State.evaluate
  split
  · exact ⟨_, _, _, _, _, rfl⟩
  · exact entryTests_shape q i s
@[simp] theorem evaluate_port (q : Request) (i : EntryIx) (s : State) : ((s.evaluate q i).1).port = s.port := by
  obtain ⟨_, _, _, _, _, h⟩ := evaluate_shape _ _ s; rw [h]
@[simp] theorem evaluate_requesters (q : Request) (i : EntryIx) (s : State) : ((s.evaluate q i).1).requesters = s.requesters := by
  obtain ⟨_, _, _, _, _, h⟩ := evaluate_shape _ _ s; rw [h]
@[simp] theorem evaluate_queue (q : Request) (i : EntryIx) (s : State) : ((s.evaluate q i).1).queue = s.queue := by
  obtain ⟨_, _, _, _, _, h⟩ := evaluate_shape _ _ s; rw [h]
@[simp] theorem evaluate_batch (q : Request) (i : EntryIx) (s : State) : ((s.evaluate q i).1).batch = s.batch := by
  obtain ⟨_, _, _, _, _, h⟩ := evaluate_shape _ _ s; rw [h]
@[simp] theorem evaluate_freeze (q : Request) (i : EntryIx) (s : State) : ((s.evaluate q i).1).freeze = s.freeze := by
  obtain ⟨_, _, _, _, _, h⟩ := evaluate_shape _ _ s; rw [h]
@[simp] theorem evaluate_sweep (q : Request) (i : EntryIx) (s : State) : ((s.evaluate q i).1).sweep = s.sweep := by
  obtain ⟨_, _, _, _, _, h⟩ := evaluate_shape _ _ s; rw [h]
@[simp] theorem evaluate_settings (q : Request) (i : EntryIx) (s : State) : ((s.evaluate q i).1).settings = s.settings := by
  obtain ⟨_, _, _, _, _, h⟩ := evaluate_shape _ _ s; rw [h]
@[simp] theorem evaluate_mgmt (q : Request) (i : EntryIx) (s : State) : ((s.evaluate q i).1).mgmt = s.mgmt := by
  obtain ⟨_, _, _, _, _, h⟩ := evaluate_shape _ _ s; rw [h]
@[simp] theorem evaluate_loader (q : Request) (i : EntryIx) (s : State) : ((s.evaluate q i).1).loader = s.loader := by
  obtain ⟨_, _, _, _, _, h⟩ := evaluate_shape _ _ s; rw [h]
@[simp] theorem evaluate_board (q : Request) (i : EntryIx) (s : State) : ((s.evaluate q i).1).board = s.board := by
  obtain ⟨_, _, _, _, _, h⟩ := evaluate_shape _ _ s; rw [h]
@[simp] theorem evaluate_resetLow (q : Request) (i : EntryIx) (s : State) : ((s.evaluate q i).1).resetLow = s.resetLow := by
  obtain ⟨_, _, _, _, _, h⟩ := evaluate_shape _ _ s; rw [h]
@[simp] theorem evaluate_loads (q : Request) (i : EntryIx) (s : State) : ((s.evaluate q i).1).loads = s.loads := by
  obtain ⟨_, _, _, _, _, h⟩ := evaluate_shape _ _ s; rw [h]
@[simp] theorem evaluate_now (q : Request) (i : EntryIx) (s : State) : ((s.evaluate q i).1).now = s.now := by
  obtain ⟨_, _, _, _, _, h⟩ := evaluate_shape _ _ s; rw [h]
@[simp] theorem evaluate_pending (q : Request) (i : EntryIx) (s : State) : ((s.evaluate q i).1).pending = s.pending := by
  obtain ⟨_, _, _, _, _, h⟩ := evaluate_shape _ _ s; rw [h]

/-- One waiting slot takes its result (05 R90). -/
theorem evaluateSlot_shape (k : SlotIx) (s : State) :
    ∃ x0 x3 x4 x6 x9 x16, s.evaluateSlot k = { s with store := x0, claims := x3, queue := x4, drain := x6, errors := x9, free := x16 } := by
  unfold State.evaluateSlot
  split
  · rename_i q i _
    obtain ⟨_, _, _, _, _, h⟩ := evaluate_shape q i s
    dsimp only
    split
    · rw [h]
      exact ⟨_, _, _, _, _, _, rfl⟩
    · rw [h]
      exact ⟨_, _, _, _, _, _, rfl⟩
  · exact ⟨_, _, _, _, _, _, rfl⟩

/-- All waiting slots take their results (05 R89). -/
theorem evaluateWaiting_shape (s : State) :
    ∃ x0 x3 x4 x6 x9 x16, s.evaluateWaiting = { s with store := x0, claims := x3, queue := x4, drain := x6, errors := x9, free := x16 } := by
  unfold State.evaluateWaiting
  refine foldl_keeps (p := fun u => ∃ x0 x3 x4 x6 x9 x16, u = { s with store := x0, claims := x3, queue := x4, drain := x6, errors := x9, free := x16 }) ?_ _ ⟨_, _, _, _, _, _, rfl⟩
  rintro u k ⟨_, _, _, _, _, _, hu⟩
  obtain ⟨_, _, _, _, _, _, h⟩ := evaluateSlot_shape k u
  rw [h, hu]
  exact ⟨_, _, _, _, _, _, rfl⟩
@[simp] theorem evaluateWaiting_port (s : State) : (s.evaluateWaiting).port = s.port := by
  obtain ⟨_, _, _, _, _, _, h⟩ := evaluateWaiting_shape s; rw [h]
@[simp] theorem evaluateWaiting_requesters (s : State) : (s.evaluateWaiting).requesters = s.requesters := by
  obtain ⟨_, _, _, _, _, _, h⟩ := evaluateWaiting_shape s; rw [h]
@[simp] theorem evaluateWaiting_batch (s : State) : (s.evaluateWaiting).batch = s.batch := by
  obtain ⟨_, _, _, _, _, _, h⟩ := evaluateWaiting_shape s; rw [h]
@[simp] theorem evaluateWaiting_freeze (s : State) : (s.evaluateWaiting).freeze = s.freeze := by
  obtain ⟨_, _, _, _, _, _, h⟩ := evaluateWaiting_shape s; rw [h]
@[simp] theorem evaluateWaiting_sweep (s : State) : (s.evaluateWaiting).sweep = s.sweep := by
  obtain ⟨_, _, _, _, _, _, h⟩ := evaluateWaiting_shape s; rw [h]
@[simp] theorem evaluateWaiting_settings (s : State) : (s.evaluateWaiting).settings = s.settings := by
  obtain ⟨_, _, _, _, _, _, h⟩ := evaluateWaiting_shape s; rw [h]
@[simp] theorem evaluateWaiting_mgmt (s : State) : (s.evaluateWaiting).mgmt = s.mgmt := by
  obtain ⟨_, _, _, _, _, _, h⟩ := evaluateWaiting_shape s; rw [h]
@[simp] theorem evaluateWaiting_loader (s : State) : (s.evaluateWaiting).loader = s.loader := by
  obtain ⟨_, _, _, _, _, _, h⟩ := evaluateWaiting_shape s; rw [h]
@[simp] theorem evaluateWaiting_board (s : State) : (s.evaluateWaiting).board = s.board := by
  obtain ⟨_, _, _, _, _, _, h⟩ := evaluateWaiting_shape s; rw [h]
@[simp] theorem evaluateWaiting_resetLow (s : State) : (s.evaluateWaiting).resetLow = s.resetLow := by
  obtain ⟨_, _, _, _, _, _, h⟩ := evaluateWaiting_shape s; rw [h]
@[simp] theorem evaluateWaiting_loads (s : State) : (s.evaluateWaiting).loads = s.loads := by
  obtain ⟨_, _, _, _, _, _, h⟩ := evaluateWaiting_shape s; rw [h]
@[simp] theorem evaluateWaiting_now (s : State) : (s.evaluateWaiting).now = s.now := by
  obtain ⟨_, _, _, _, _, _, h⟩ := evaluateWaiting_shape s; rw [h]
@[simp] theorem evaluateWaiting_pending (s : State) : (s.evaluateWaiting).pending = s.pending := by
  obtain ⟨_, _, _, _, _, _, h⟩ := evaluateWaiting_shape s; rw [h]

/-- The delivery of a response (03 R42, R59). -/
theorem deliver_shape (r : ReqId) (a : Response) (s : State) :
    ∃ x1 x2 x9, s.deliver r a = { s with port := x1, requesters := x2, errors := x9 } := by
  unfold State.deliver
  dsimp only
  split
  · rename_i k _
    obtain ⟨_, _, h⟩ := fault_shape r k { s with port := .answered a }
    rw [h]
    exact ⟨_, _, _, rfl⟩
  · exact ⟨_, _, _, rfl⟩
@[simp] theorem deliver_store (r : ReqId) (a : Response) (s : State) : (s.deliver r a).store = s.store := by
  obtain ⟨_, _, _, h⟩ := deliver_shape _ _ s; rw [h]
@[simp] theorem deliver_claims (r : ReqId) (a : Response) (s : State) : (s.deliver r a).claims = s.claims := by
  obtain ⟨_, _, _, h⟩ := deliver_shape _ _ s; rw [h]
@[simp] theorem deliver_queue (r : ReqId) (a : Response) (s : State) : (s.deliver r a).queue = s.queue := by
  obtain ⟨_, _, _, h⟩ := deliver_shape _ _ s; rw [h]
@[simp] theorem deliver_batch (r : ReqId) (a : Response) (s : State) : (s.deliver r a).batch = s.batch := by
  obtain ⟨_, _, _, h⟩ := deliver_shape _ _ s; rw [h]
@[simp] theorem deliver_drain (r : ReqId) (a : Response) (s : State) : (s.deliver r a).drain = s.drain := by
  obtain ⟨_, _, _, h⟩ := deliver_shape _ _ s; rw [h]
@[simp] theorem deliver_freeze (r : ReqId) (a : Response) (s : State) : (s.deliver r a).freeze = s.freeze := by
  obtain ⟨_, _, _, h⟩ := deliver_shape _ _ s; rw [h]
@[simp] theorem deliver_sweep (r : ReqId) (a : Response) (s : State) : (s.deliver r a).sweep = s.sweep := by
  obtain ⟨_, _, _, h⟩ := deliver_shape _ _ s; rw [h]
@[simp] theorem deliver_settings (r : ReqId) (a : Response) (s : State) : (s.deliver r a).settings = s.settings := by
  obtain ⟨_, _, _, h⟩ := deliver_shape _ _ s; rw [h]
@[simp] theorem deliver_mgmt (r : ReqId) (a : Response) (s : State) : (s.deliver r a).mgmt = s.mgmt := by
  obtain ⟨_, _, _, h⟩ := deliver_shape _ _ s; rw [h]
@[simp] theorem deliver_loader (r : ReqId) (a : Response) (s : State) : (s.deliver r a).loader = s.loader := by
  obtain ⟨_, _, _, h⟩ := deliver_shape _ _ s; rw [h]
@[simp] theorem deliver_board (r : ReqId) (a : Response) (s : State) : (s.deliver r a).board = s.board := by
  obtain ⟨_, _, _, h⟩ := deliver_shape _ _ s; rw [h]
@[simp] theorem deliver_resetLow (r : ReqId) (a : Response) (s : State) : (s.deliver r a).resetLow = s.resetLow := by
  obtain ⟨_, _, _, h⟩ := deliver_shape _ _ s; rw [h]
@[simp] theorem deliver_loads (r : ReqId) (a : Response) (s : State) : (s.deliver r a).loads = s.loads := by
  obtain ⟨_, _, _, h⟩ := deliver_shape _ _ s; rw [h]
@[simp] theorem deliver_now (r : ReqId) (a : Response) (s : State) : (s.deliver r a).now = s.now := by
  obtain ⟨_, _, _, h⟩ := deliver_shape _ _ s; rw [h]
@[simp] theorem deliver_free (r : ReqId) (a : Response) (s : State) : (s.deliver r a).free = s.free := by
  obtain ⟨_, _, _, h⟩ := deliver_shape _ _ s; rw [h]
@[simp] theorem deliver_pending (r : ReqId) (a : Response) (s : State) : (s.deliver r a).pending = s.pending := by
  obtain ⟨_, _, _, h⟩ := deliver_shape _ _ s; rw [h]

/-- Step 5 for a locked group (05 R85). -/
theorem storeRequest_shape (q : Request) (i : EntryIx) (s : State) :
    ∃ x4, (s.storeRequest q i).1 = { s with queue := x4 } := by
  unfold State.storeRequest
  split
  · exact ⟨_, rfl⟩
  · split
    · exact ⟨_, rfl⟩
    · exact ⟨_, rfl⟩

/-- Steps 4 to 10 (03 R52 to R58). -/
theorem resolveInside_shape (q : Request) (s : State) :
    ∃ x0 x3 x4 x6 x9 x16, (s.resolveInside q).1 = { s with store := x0, claims := x3, queue := x4, drain := x6, errors := x9, free := x16 } := by
  have ht : ∃ x0 x3 x4 x6 x9 x16, (s.entryTests q (s.pageOf q.address)).1 = { s with store := x0, claims := x3, queue := x4, drain := x6, errors := x9, free := x16 } := by
    obtain ⟨_, _, _, _, _, h⟩ := entryTests_shape q (s.pageOf q.address) s
    rw [h]
    exact ⟨_, _, _, _, _, _, rfl⟩
  unfold State.resolveInside
  split
  · split
    · exact ⟨_, _, _, _, _, _, rfl⟩
    · exact ht
  · split
    · obtain ⟨_, h⟩ := storeRequest_shape q (s.pageOf q.address) s
      rw [h]
      exact ⟨_, _, _, _, _, _, rfl⟩
    · exact ht

/-- Steps 1 to 10 (03 R48). -/
theorem resolveRequest_shape (q : Request) (s : State) :
    ∃ x0 x3 x4 x6 x9 x16, (s.resolveRequest q).1 = { s with store := x0, claims := x3, queue := x4, drain := x6, errors := x9, free := x16 } := by
  unfold State.resolveRequest
  split
  · exact ⟨_, _, _, _, _, _, rfl⟩
  · split
    · exact ⟨_, _, _, _, _, _, rfl⟩
    · split
      · exact resolveInside_shape q s
      · exact ⟨_, _, _, _, _, _, rfl⟩

/-- The five cases of a RELEASE (04 R71). -/
theorem releaseRequest_shape (r : ReqId) (t : Tag) (s : State) :
    ∃ x0 x3 x4 x6 x9 x16, (s.releaseRequest r t).1 = { s with store := x0, claims := x3, queue := x4, drain := x6, errors := x9, free := x16 } := by
  have hf : ∀ u : State, ∃ x0 x3 x4 x6 x9 x16, u.freeClaim t = { u with store := x0, claims := x3, queue := x4, drain := x6, errors := x9, free := x16 } := by
    intro u
    obtain ⟨_, _, _, _, _, h⟩ := freeClaim_shape t u
    rw [h]
    exact ⟨_, _, _, _, _, _, rfl⟩
  unfold State.releaseRequest
  split
  · exact ⟨_, _, _, _, _, _, rfl⟩
  · split
    · exact hf s
    · exact ⟨_, _, _, _, _, _, rfl⟩
  · split
    · split
      · rename_i k _
        obtain ⟨_, _, _, _, _, _, h⟩ := hf (s.putSlot k .empty)
        dsimp only
        rw [h]
        exact ⟨_, _, _, _, _, _, rfl⟩
      · exact hf s
    · exact ⟨_, _, _, _, _, _, rfl⟩

/-- The acceptance of a requester clearing (02 R37). -/
theorem acceptClearing_shape (r : ReqId) (c : Clearing) (s : State) :
    ∃ x0 x2 x3 x4 x6 x9 x16, s.acceptClearing r c = { s with store := x0, requesters := x2, claims := x3, queue := x4, drain := x6, errors := x9, free := x16 } := by
  unfold State.acceptClearing
  obtain ⟨_, _, _, _, _, _, h⟩ := dropSlotsOf_shape r
    (s.putRequester r { s.requester r with clearing := some c, faults := 0, deadline := none })
  rw [h]
  exact ⟨_, _, _, _, _, _, _, rfl⟩
@[simp] theorem acceptClearing_port (r : ReqId) (c : Clearing) (s : State) : (s.acceptClearing r c).port = s.port := by
  obtain ⟨_, _, _, _, _, _, _, h⟩ := acceptClearing_shape _ _ s; rw [h]
@[simp] theorem acceptClearing_batch (r : ReqId) (c : Clearing) (s : State) : (s.acceptClearing r c).batch = s.batch := by
  obtain ⟨_, _, _, _, _, _, _, h⟩ := acceptClearing_shape _ _ s; rw [h]
@[simp] theorem acceptClearing_freeze (r : ReqId) (c : Clearing) (s : State) : (s.acceptClearing r c).freeze = s.freeze := by
  obtain ⟨_, _, _, _, _, _, _, h⟩ := acceptClearing_shape _ _ s; rw [h]
@[simp] theorem acceptClearing_sweep (r : ReqId) (c : Clearing) (s : State) : (s.acceptClearing r c).sweep = s.sweep := by
  obtain ⟨_, _, _, _, _, _, _, h⟩ := acceptClearing_shape _ _ s; rw [h]
@[simp] theorem acceptClearing_settings (r : ReqId) (c : Clearing) (s : State) : (s.acceptClearing r c).settings = s.settings := by
  obtain ⟨_, _, _, _, _, _, _, h⟩ := acceptClearing_shape _ _ s; rw [h]
@[simp] theorem acceptClearing_mgmt (r : ReqId) (c : Clearing) (s : State) : (s.acceptClearing r c).mgmt = s.mgmt := by
  obtain ⟨_, _, _, _, _, _, _, h⟩ := acceptClearing_shape _ _ s; rw [h]
@[simp] theorem acceptClearing_loader (r : ReqId) (c : Clearing) (s : State) : (s.acceptClearing r c).loader = s.loader := by
  obtain ⟨_, _, _, _, _, _, _, h⟩ := acceptClearing_shape _ _ s; rw [h]
@[simp] theorem acceptClearing_board (r : ReqId) (c : Clearing) (s : State) : (s.acceptClearing r c).board = s.board := by
  obtain ⟨_, _, _, _, _, _, _, h⟩ := acceptClearing_shape _ _ s; rw [h]
@[simp] theorem acceptClearing_resetLow (r : ReqId) (c : Clearing) (s : State) : (s.acceptClearing r c).resetLow = s.resetLow := by
  obtain ⟨_, _, _, _, _, _, _, h⟩ := acceptClearing_shape _ _ s; rw [h]
@[simp] theorem acceptClearing_loads (r : ReqId) (c : Clearing) (s : State) : (s.acceptClearing r c).loads = s.loads := by
  obtain ⟨_, _, _, _, _, _, _, h⟩ := acceptClearing_shape _ _ s; rw [h]
@[simp] theorem acceptClearing_now (r : ReqId) (c : Clearing) (s : State) : (s.acceptClearing r c).now = s.now := by
  obtain ⟨_, _, _, _, _, _, _, h⟩ := acceptClearing_shape _ _ s; rw [h]
@[simp] theorem acceptClearing_pending (r : ReqId) (c : Clearing) (s : State) : (s.acceptClearing r c).pending = s.pending := by
  obtain ⟨_, _, _, _, _, _, _, h⟩ := acceptClearing_shape _ _ s; rw [h]

/-- A SLOT_RESET's clearing (03 R63). -/
theorem slotResetRequest_shape (r : ReqId) (s : State) :
    ∃ x0 x1 x2 x3 x4 x6 x9 x16, s.slotResetRequest r = { s with store := x0, port := x1, requesters := x2, claims := x3, queue := x4, drain := x6, errors := x9, free := x16 } := by
  unfold State.slotResetRequest
  dsimp only
  split
  · exact ⟨_, _, _, _, _, _, _, _, rfl⟩
  · obtain ⟨_, _, _, _, _, _, _, h⟩ := acceptClearing_shape r .toDefaults s
    rw [h]
    exact ⟨_, _, _, _, _, _, _, _, rfl⟩

/-! ### 06: Command.lean, Batch.lean -/

/-- An abort of the batch (06 R106). -/
theorem abortBatch_shape (x : AbortReason) (s : State) :
    ∃ x5 x9, s.abortBatch x = { s with batch := x5, errors := x9 } := by
  exact ⟨_, _, rfl⟩

/-- The abort INTERRUPTED (06 R107). -/
theorem interrupt_shape (s : State) :
    ∃ x5 x9, s.interrupt = { s with batch := x5, errors := x9 } := by
  unfold State.interrupt
  split
  · exact abortBatch_shape .interrupted s
  · exact ⟨_, _, rfl⟩
@[simp] theorem interrupt_store (s : State) : (s.interrupt).store = s.store := by
  obtain ⟨_, _, h⟩ := interrupt_shape s; rw [h]
@[simp] theorem interrupt_port (s : State) : (s.interrupt).port = s.port := by
  obtain ⟨_, _, h⟩ := interrupt_shape s; rw [h]
@[simp] theorem interrupt_requesters (s : State) : (s.interrupt).requesters = s.requesters := by
  obtain ⟨_, _, h⟩ := interrupt_shape s; rw [h]
@[simp] theorem interrupt_claims (s : State) : (s.interrupt).claims = s.claims := by
  obtain ⟨_, _, h⟩ := interrupt_shape s; rw [h]
@[simp] theorem interrupt_queue (s : State) : (s.interrupt).queue = s.queue := by
  obtain ⟨_, _, h⟩ := interrupt_shape s; rw [h]
@[simp] theorem interrupt_drain (s : State) : (s.interrupt).drain = s.drain := by
  obtain ⟨_, _, h⟩ := interrupt_shape s; rw [h]
@[simp] theorem interrupt_freeze (s : State) : (s.interrupt).freeze = s.freeze := by
  obtain ⟨_, _, h⟩ := interrupt_shape s; rw [h]
@[simp] theorem interrupt_sweep (s : State) : (s.interrupt).sweep = s.sweep := by
  obtain ⟨_, _, h⟩ := interrupt_shape s; rw [h]
@[simp] theorem interrupt_settings (s : State) : (s.interrupt).settings = s.settings := by
  obtain ⟨_, _, h⟩ := interrupt_shape s; rw [h]
@[simp] theorem interrupt_mgmt (s : State) : (s.interrupt).mgmt = s.mgmt := by
  obtain ⟨_, _, h⟩ := interrupt_shape s; rw [h]
@[simp] theorem interrupt_loader (s : State) : (s.interrupt).loader = s.loader := by
  obtain ⟨_, _, h⟩ := interrupt_shape s; rw [h]
@[simp] theorem interrupt_board (s : State) : (s.interrupt).board = s.board := by
  obtain ⟨_, _, h⟩ := interrupt_shape s; rw [h]
@[simp] theorem interrupt_resetLow (s : State) : (s.interrupt).resetLow = s.resetLow := by
  obtain ⟨_, _, h⟩ := interrupt_shape s; rw [h]
@[simp] theorem interrupt_loads (s : State) : (s.interrupt).loads = s.loads := by
  obtain ⟨_, _, h⟩ := interrupt_shape s; rw [h]
@[simp] theorem interrupt_now (s : State) : (s.interrupt).now = s.now := by
  obtain ⟨_, _, h⟩ := interrupt_shape s; rw [h]
@[simp] theorem interrupt_free (s : State) : (s.interrupt).free = s.free := by
  obtain ⟨_, _, h⟩ := interrupt_shape s; rw [h]
@[simp] theorem interrupt_pending (s : State) : (s.interrupt).pending = s.pending := by
  obtain ⟨_, _, h⟩ := interrupt_shape s; rw [h]

/-- The acceptance of a commit (06 R110). -/
theorem acceptCommit_shape (g : Group) (n : Nat) (ops : List BatchOp) (s : State) :
    ∃ x0 x4 x5, s.acceptCommit g n ops = { s with store := x0, queue := x4, batch := x5 } := by
  exact ⟨_, _, _, rfl⟩

/-- The end of a commit (06 R116, R121). -/
theorem closeCommit_shape (r : CommitResult) (s : State) :
    ∃ x0 x5 x9, s.closeCommit r = { s with store := x0, batch := x5, errors := x9 } := by
  exact ⟨_, _, _, rfl⟩
@[simp] theorem closeCommit_port (r : CommitResult) (s : State) : (s.closeCommit r).port = s.port := by
  obtain ⟨_, _, _, h⟩ := closeCommit_shape _ s; rw [h]
@[simp] theorem closeCommit_requesters (r : CommitResult) (s : State) : (s.closeCommit r).requesters = s.requesters := by
  obtain ⟨_, _, _, h⟩ := closeCommit_shape _ s; rw [h]
@[simp] theorem closeCommit_claims (r : CommitResult) (s : State) : (s.closeCommit r).claims = s.claims := by
  obtain ⟨_, _, _, h⟩ := closeCommit_shape _ s; rw [h]
@[simp] theorem closeCommit_queue (r : CommitResult) (s : State) : (s.closeCommit r).queue = s.queue := by
  obtain ⟨_, _, _, h⟩ := closeCommit_shape _ s; rw [h]
@[simp] theorem closeCommit_drain (r : CommitResult) (s : State) : (s.closeCommit r).drain = s.drain := by
  obtain ⟨_, _, _, h⟩ := closeCommit_shape _ s; rw [h]
@[simp] theorem closeCommit_freeze (r : CommitResult) (s : State) : (s.closeCommit r).freeze = s.freeze := by
  obtain ⟨_, _, _, h⟩ := closeCommit_shape _ s; rw [h]
@[simp] theorem closeCommit_sweep (r : CommitResult) (s : State) : (s.closeCommit r).sweep = s.sweep := by
  obtain ⟨_, _, _, h⟩ := closeCommit_shape _ s; rw [h]
@[simp] theorem closeCommit_settings (r : CommitResult) (s : State) : (s.closeCommit r).settings = s.settings := by
  obtain ⟨_, _, _, h⟩ := closeCommit_shape _ s; rw [h]
@[simp] theorem closeCommit_mgmt (r : CommitResult) (s : State) : (s.closeCommit r).mgmt = s.mgmt := by
  obtain ⟨_, _, _, h⟩ := closeCommit_shape _ s; rw [h]
@[simp] theorem closeCommit_loader (r : CommitResult) (s : State) : (s.closeCommit r).loader = s.loader := by
  obtain ⟨_, _, _, h⟩ := closeCommit_shape _ s; rw [h]
@[simp] theorem closeCommit_board (r : CommitResult) (s : State) : (s.closeCommit r).board = s.board := by
  obtain ⟨_, _, _, h⟩ := closeCommit_shape _ s; rw [h]
@[simp] theorem closeCommit_resetLow (r : CommitResult) (s : State) : (s.closeCommit r).resetLow = s.resetLow := by
  obtain ⟨_, _, _, h⟩ := closeCommit_shape _ s; rw [h]
@[simp] theorem closeCommit_loads (r : CommitResult) (s : State) : (s.closeCommit r).loads = s.loads := by
  obtain ⟨_, _, _, h⟩ := closeCommit_shape _ s; rw [h]
@[simp] theorem closeCommit_now (r : CommitResult) (s : State) : (s.closeCommit r).now = s.now := by
  obtain ⟨_, _, _, h⟩ := closeCommit_shape _ s; rw [h]
@[simp] theorem closeCommit_free (r : CommitResult) (s : State) : (s.closeCommit r).free = s.free := by
  obtain ⟨_, _, _, h⟩ := closeCommit_shape _ s; rw [h]
@[simp] theorem closeCommit_pending (r : CommitResult) (s : State) : (s.closeCommit r).pending = s.pending := by
  obtain ⟨_, _, _, h⟩ := closeCommit_shape _ s; rw [h]

/-- The rejection of a commit (06 R116). -/
theorem rejectCommit_shape (g : Group) (n p : Nat) (i : EntryIx) (x : RejectReason) (s : State) :
    ∃ x0 x3 x4 x5 x6 x9 x16, s.rejectCommit g n p i x = { s with store := x0, claims := x3, queue := x4, batch := x5, drain := x6, errors := x9, free := x16 } := by
  unfold State.rejectCommit
  obtain ⟨_, _, _, _, _, _, h⟩ := evaluateWaiting_shape
    ((s.report (.commitReject x (some i))).closeCommit (.rejected g n x i p))
  rw [h]
  exact ⟨_, _, _, _, _, _, _, rfl⟩

/-- A REVOKE's write (06 R119). -/
theorem applyRevoke_shape (i : EntryIx) (c : Contents) (s : State) :
    ∃ x0 x6 x16, (s.applyRevoke i c).1 = { s with store := x0, drain := x6, free := x16 } := by
  unfold State.applyRevoke
  dsimp only
  split
  · exact ⟨_, _, _, rfl⟩
  · split
    · exact ⟨_, _, _, rfl⟩
    · exact ⟨_, _, _, rfl⟩

/-- One application (06 R117 to R119). -/
theorem applyOp_shape (x : BatchOp) (c : ValidatedCopy) (s : State) :
    ∃ x0 x6 x16, (s.applyOp x c).1 = { s with store := x0, drain := x6, free := x16 } := by
  unfold State.applyOp
  dsimp only
  split
  · exact ⟨_, _, _, rfl⟩
  · split
    · exact ⟨_, _, _, rfl⟩
    · exact ⟨_, _, _, rfl⟩
  · exact applyRevoke_shape _ _ s
@[simp] theorem applyOp_port (x : BatchOp) (c : ValidatedCopy) (s : State) : ((s.applyOp x c).1).port = s.port := by
  obtain ⟨_, _, _, h⟩ := applyOp_shape _ _ s; rw [h]
@[simp] theorem applyOp_requesters (x : BatchOp) (c : ValidatedCopy) (s : State) : ((s.applyOp x c).1).requesters = s.requesters := by
  obtain ⟨_, _, _, h⟩ := applyOp_shape _ _ s; rw [h]
@[simp] theorem applyOp_claims (x : BatchOp) (c : ValidatedCopy) (s : State) : ((s.applyOp x c).1).claims = s.claims := by
  obtain ⟨_, _, _, h⟩ := applyOp_shape _ _ s; rw [h]
@[simp] theorem applyOp_queue (x : BatchOp) (c : ValidatedCopy) (s : State) : ((s.applyOp x c).1).queue = s.queue := by
  obtain ⟨_, _, _, h⟩ := applyOp_shape _ _ s; rw [h]
@[simp] theorem applyOp_batch (x : BatchOp) (c : ValidatedCopy) (s : State) : ((s.applyOp x c).1).batch = s.batch := by
  obtain ⟨_, _, _, h⟩ := applyOp_shape _ _ s; rw [h]
@[simp] theorem applyOp_freeze (x : BatchOp) (c : ValidatedCopy) (s : State) : ((s.applyOp x c).1).freeze = s.freeze := by
  obtain ⟨_, _, _, h⟩ := applyOp_shape _ _ s; rw [h]
@[simp] theorem applyOp_sweep (x : BatchOp) (c : ValidatedCopy) (s : State) : ((s.applyOp x c).1).sweep = s.sweep := by
  obtain ⟨_, _, _, h⟩ := applyOp_shape _ _ s; rw [h]
@[simp] theorem applyOp_errors (x : BatchOp) (c : ValidatedCopy) (s : State) : ((s.applyOp x c).1).errors = s.errors := by
  obtain ⟨_, _, _, h⟩ := applyOp_shape _ _ s; rw [h]
@[simp] theorem applyOp_settings (x : BatchOp) (c : ValidatedCopy) (s : State) : ((s.applyOp x c).1).settings = s.settings := by
  obtain ⟨_, _, _, h⟩ := applyOp_shape _ _ s; rw [h]
@[simp] theorem applyOp_mgmt (x : BatchOp) (c : ValidatedCopy) (s : State) : ((s.applyOp x c).1).mgmt = s.mgmt := by
  obtain ⟨_, _, _, h⟩ := applyOp_shape _ _ s; rw [h]
@[simp] theorem applyOp_loader (x : BatchOp) (c : ValidatedCopy) (s : State) : ((s.applyOp x c).1).loader = s.loader := by
  obtain ⟨_, _, _, h⟩ := applyOp_shape _ _ s; rw [h]
@[simp] theorem applyOp_board (x : BatchOp) (c : ValidatedCopy) (s : State) : ((s.applyOp x c).1).board = s.board := by
  obtain ⟨_, _, _, h⟩ := applyOp_shape _ _ s; rw [h]
@[simp] theorem applyOp_resetLow (x : BatchOp) (c : ValidatedCopy) (s : State) : ((s.applyOp x c).1).resetLow = s.resetLow := by
  obtain ⟨_, _, _, h⟩ := applyOp_shape _ _ s; rw [h]
@[simp] theorem applyOp_loads (x : BatchOp) (c : ValidatedCopy) (s : State) : ((s.applyOp x c).1).loads = s.loads := by
  obtain ⟨_, _, _, h⟩ := applyOp_shape _ _ s; rw [h]
@[simp] theorem applyOp_now (x : BatchOp) (c : ValidatedCopy) (s : State) : ((s.applyOp x c).1).now = s.now := by
  obtain ⟨_, _, _, h⟩ := applyOp_shape _ _ s; rw [h]
@[simp] theorem applyOp_pending (x : BatchOp) (c : ValidatedCopy) (s : State) : ((s.applyOp x c).1).pending = s.pending := by
  obtain ⟨_, _, _, h⟩ := applyOp_shape _ _ s; rw [h]

/-! ### 12: Image.lean -/

/-- Skipped items are reported (12 R184 to R186). -/
theorem reportSkipped_shape (x : ImageItem) (n : Nat) (f : ImageFlags → ImageFlags) (s : State) :
    ∃ x9 x12, s.reportSkipped x n f = { s with errors := x9, loader := x12 } := by
  unfold State.reportSkipped
  split
  · exact ⟨_, _, rfl⟩
  · exact ⟨_, _, rfl⟩

/-- The first pass (12 R183). -/
theorem loadCheck_shape (s : State) :
    ∃ x9 x12, s.loadCheck = { s with errors := x9, loader := x12 } := by
  unfold State.loadCheck
  split
  · exact ⟨_, _, rfl⟩
  · exact ⟨_, _, rfl⟩

/-- The Control section's values are taken (12 R184). -/
theorem applyControl_shape (c : ControlValues) (s : State) :
    ∃ x0 x2 x9 x10 x12, s.applyControl c = { s with store := x0, requesters := x2, errors := x9, settings := x10, loader := x12 } := by
  unfold State.applyControl
  dsimp only
  obtain ⟨_, _, h⟩ := reportSkipped_shape .control c.skipped (fun f => { f with controlSkipped := true }) (State.putFlags
    (fun f => { f with controlFallback := f.controlFallback ||
      (c.fallback || (pageSizeOf c.pageCode).2 ||
        decide (effectiveBase (pageSizeOf c.pageCode).1 c.base ≠ c.base)) })
    { s with
      settings := { c.settings with shadowInt := s.settings.shadowInt, shadowAlert := s.settings.shadowAlert }
      store := { s.store with
        pageSize := (pageSizeOf c.pageCode).1
        base := BitVec.ofNat 40 (effectiveBase (pageSizeOf c.pageCode).1 c.base) }
      requesters := { s.requesters with
        domains := tabulate (fun d => { s.requesters.domains[d] with pass := c.pass.getLsbD d.val }) } })
  rw [h]
  exact ⟨_, _, _, _, _, rfl⟩

/-- The Control section (12 R184). -/
theorem loadControl_shape (s : State) :
    ∃ x0 x2 x9 x10 x12, s.loadControl = { s with store := x0, requesters := x2, errors := x9, settings := x10, loader := x12 } := by
  have ha : ∀ c, ∃ x0 x2 x9 x10 x12, (s.applyControl c).putWork .requester =
      { s with store := x0, requesters := x2, errors := x9, settings := x10, loader := x12 } := by
    intro c
    obtain ⟨_, _, _, _, _, h⟩ := applyControl_shape c s
    rw [h]
    exact ⟨_, _, _, _, _, rfl⟩
  unfold State.loadControl
  split
  · exact ha _
  · exact ha _
  · exact ha _

/-- The Requester Defaults are taken (12 R185). -/
theorem applyRequesters_shape (v : RequesterValues) (s : State) :
    ∃ x2 x9 x12, s.applyRequesters v = { s with requesters := x2, errors := x9, loader := x12 } := by
  unfold State.applyRequesters
  obtain ⟨_, _, h⟩ := reportSkipped_shape .requester v.skipped (fun f => { f with requesterSkipped := true })
    { s with requesters := { s.requesters with
      defaults := v.defaults, live := tabulate (fun r => liveFrom v.defaults[r]) } }
  rw [h]
  exact ⟨_, _, _, rfl⟩

/-- The Requester section (12 R185). -/
theorem loadRequesters_shape (s : State) :
    ∃ x2 x9 x12, s.loadRequesters = { s with requesters := x2, errors := x9, loader := x12 } := by
  have ha : ∀ v, ∃ x2 x9 x12, (s.applyRequesters v).putWork .preloadStart =
      { s with requesters := x2, errors := x9, loader := x12 } := by
    intro v
    obtain ⟨_, _, _, h⟩ := applyRequesters_shape v s
    rw [h]
    exact ⟨_, _, _, rfl⟩
  unfold State.loadRequesters
  split
  · exact ha _
  · exact ha _
  · exact ha _

/-- The Preload section is found (12 R186). -/
theorem loadPreloadStart_shape (s : State) :
    ∃ x12, s.loadPreloadStart = { s with loader := x12 } := by
  unfold State.loadPreloadStart
  split
  · exact ⟨_, rfl⟩
  · exact ⟨_, rfl⟩
  · exact ⟨_, rfl⟩

/-- A read of the Preload section changes the table alone (12 R186). -/
theorem takePreload_shape (a b c : ImageWord) (r : PreloadRun) :
    ∃ x0, (takePreload a b c r).state = { r.state with store := x0 } := by
  unfold takePreload
  split
  · split
    · exact ⟨_, rfl⟩
    · exact ⟨_, rfl⟩
  · exact ⟨_, rfl⟩

theorem preloadRecords_shape (l : List ImageWord) (r : PreloadRun) :
    ∃ x0, (preloadRecords l r).state = { r.state with store := x0 } := by
  fun_induction preloadRecords l r with
  | case1 a b c rest r ih =>
    obtain ⟨_, h⟩ := ih
    obtain ⟨_, h'⟩ := takePreload_shape a b c r
    rw [h, h']
    exact ⟨_, rfl⟩
  | case2 => exact ⟨_, rfl⟩
  | case3 => exact ⟨_, rfl⟩

/-- The end of a read of the Preload section (12 R186). -/
theorem endPreload_shape (n : Nat) (s : State) :
    ∃ x9 x12, s.endPreload n = { s with errors := x9, loader := x12 } := by
  unfold State.endPreload
  obtain ⟨_, _, h⟩ := reportSkipped_shape .preload n (fun f => { f with preloadSkipped := true }) s
  rw [h]
  exact ⟨_, _, rfl⟩

/-- The rest of the Preload section (12 R186). -/
theorem loadPreloadRest_shape (l : List ImageWord) (m : List Nat) (n : Nat) (s : State) :
    ∃ x0 x9 x12, s.loadPreloadRest l m n = { s with store := x0, errors := x9, loader := x12 } := by
  unfold State.loadPreloadRest
  obtain ⟨_, h⟩ := preloadRecords_shape l ⟨s, m, n⟩
  dsimp only
  obtain ⟨_, _, h'⟩ := endPreload_shape (preloadRecords l ⟨s, m, n⟩).skipped (preloadRecords l ⟨s, m, n⟩).state
  rw [h', h]
  exact ⟨_, _, _, rfl⟩

/-- One piece of the Preload section (12 R186). -/
theorem loadPreloadPiece_shape (l : List ImageWord) (m : List Nat) (n : Nat) (s : State) :
    ∃ x0 x9 x12, s.loadPreloadPiece l m n = { s with store := x0, errors := x9, loader := x12 } := by
  unfold State.loadPreloadPiece
  split
  · rename_i a b c rest
    obtain ⟨_, h⟩ := takePreload_shape a b c ⟨s, m, n⟩
    dsimp only
    rw [h]
    exact ⟨_, _, _, rfl⟩
  · exact loadPreloadRest_shape l m n s

/-- A Freeze section not applied (08 R139). -/
theorem skipFreeze_shape (s : State) :
    ∃ x7 x9 x12, s.skipFreeze = { s with freeze := x7, errors := x9, loader := x12 } := by
  unfold State.skipFreeze
  obtain ⟨_, _, h⟩ := reportSkipped_shape .freeze 1 (fun f => { f with freezeSkipped := true })
    { s with freeze := { s.freeze with rangeUsed := true } }
  rw [h]
  exact ⟨_, _, _, rfl⟩

/-- The Freeze section (08 R139). -/
theorem loadFreeze_shape (s : State) :
    ∃ x7 x9 x12, s.loadFreeze = { s with freeze := x7, errors := x9, loader := x12 } := by
  have hs : ∃ x7 x9 x12, s.skipFreeze = { s with freeze := x7, errors := x9, loader := x12 } := skipFreeze_shape s
  obtain ⟨_, _, _, h⟩ := hs
  unfold State.loadFreeze
  rw [h]
  (repeat' split) <;> exact ⟨_, _, _, rfl⟩

/-- One piece of the load (12 R183 to R187). -/
theorem loadPiece_shape (s : State) :
    ∃ x0 x2 x7 x9 x10 x12, s.loadPiece = { s with store := x0, requesters := x2, freeze := x7, errors := x9, settings := x10, loader := x12 } := by
  unfold State.loadPiece
  split
  · obtain ⟨_, _, h⟩ := loadCheck_shape s
    rw [h]; exact ⟨_, _, _, _, _, _, rfl⟩
  · obtain ⟨_, _, _, _, _, h⟩ := loadControl_shape s
    rw [h]; exact ⟨_, _, _, _, _, _, rfl⟩
  · obtain ⟨_, _, _, h⟩ := loadRequesters_shape s
    rw [h]; exact ⟨_, _, _, _, _, _, rfl⟩
  · obtain ⟨_, h⟩ := loadPreloadStart_shape s
    rw [h]; exact ⟨_, _, _, _, _, _, rfl⟩
  · rename_i l m n _
    obtain ⟨_, _, _, h⟩ := loadPreloadPiece_shape l m n s
    rw [h]; exact ⟨_, _, _, _, _, _, rfl⟩
  · obtain ⟨_, _, _, h⟩ := loadFreeze_shape s
    rw [h]; exact ⟨_, _, _, _, _, _, rfl⟩
  · exact ⟨_, _, _, _, _, _, rfl⟩
  · exact ⟨_, _, _, _, _, _, rfl⟩

/-- From inside the Preload section (12 R189). -/
theorem loadFromPreload_shape (s : State) :
    ∃ x0 x9 x12, s.loadFromPreload = { s with store := x0, errors := x9, loader := x12 } := by
  unfold State.loadFromPreload
  split
  · exact loadPreloadRest_shape _ _ _ s
  · exact ⟨_, _, _, rfl⟩

/-- All that is left of the load (12 R183). -/
theorem loadRest_shape (s : State) :
    ∃ x0 x2 x7 x9 x10 x12, s.loadRest = { s with store := x0, requesters := x2, freeze := x7, errors := x9, settings := x10, loader := x12 } := by
  have h1 : ∃ x9 x12, s.loadFromCheck = { s with errors := x9, loader := x12 } := by
    unfold State.loadFromCheck
    split
    · exact loadCheck_shape s
    · exact ⟨_, _, rfl⟩
  have h2 : ∀ u : State, ∃ x0 x2 x9 x10 x12, u.loadFromControl =
      { u with store := x0, requesters := x2, errors := x9, settings := x10, loader := x12 } := by
    intro u
    unfold State.loadFromControl
    split
    · exact loadControl_shape u
    · exact ⟨_, _, _, _, _, rfl⟩
  have h3 : ∀ u : State, ∃ x2 x9 x12, u.loadFromRequesters = { u with requesters := x2, errors := x9, loader := x12 } := by
    intro u
    unfold State.loadFromRequesters
    split
    · exact loadRequesters_shape u
    · exact ⟨_, _, _, rfl⟩
  have h4 : ∀ u : State, ∃ x12, u.loadFromPreloadStart = { u with loader := x12 } := by
    intro u
    unfold State.loadFromPreloadStart
    split
    · exact loadPreloadStart_shape u
    · exact ⟨_, rfl⟩
  have h6 : ∀ u : State, ∃ x7 x9 x12, u.loadFromFreeze = { u with freeze := x7, errors := x9, loader := x12 } := by
    intro u
    unfold State.loadFromFreeze
    split
    · exact loadFreeze_shape u
    · exact ⟨_, _, _, rfl⟩
  have c2 : ∃ x0 x2 x9 x10 x12, s.loadFromCheck.loadFromControl =
      { s with store := x0, requesters := x2, errors := x9, settings := x10, loader := x12 } := by
    obtain ⟨_, _, h⟩ := h1
    obtain ⟨_, _, _, _, _, h'⟩ := h2 s.loadFromCheck
    rw [h', h]
    exact ⟨_, _, _, _, _, rfl⟩
  have c3 : ∃ x0 x2 x9 x10 x12, s.loadFromCheck.loadFromControl.loadFromRequesters =
      { s with store := x0, requesters := x2, errors := x9, settings := x10, loader := x12 } := by
    obtain ⟨_, _, _, _, _, h⟩ := c2
    obtain ⟨_, _, _, h'⟩ := h3 s.loadFromCheck.loadFromControl
    rw [h', h]
    exact ⟨_, _, _, _, _, rfl⟩
  have c4 : ∃ x0 x2 x9 x10 x12, s.loadFromCheck.loadFromControl.loadFromRequesters.loadFromPreloadStart =
      { s with store := x0, requesters := x2, errors := x9, settings := x10, loader := x12 } := by
    obtain ⟨_, _, _, _, _, h⟩ := c3
    obtain ⟨_, h'⟩ := h4 s.loadFromCheck.loadFromControl.loadFromRequesters
    rw [h', h]
    exact ⟨_, _, _, _, _, rfl⟩
  have c5 : ∃ x0 x2 x9 x10 x12, s.loadFromCheck.loadFromControl.loadFromRequesters.loadFromPreloadStart.loadFromPreload =
      { s with store := x0, requesters := x2, errors := x9, settings := x10, loader := x12 } := by
    obtain ⟨_, _, _, _, _, h⟩ := c4
    obtain ⟨_, _, _, h'⟩ := loadFromPreload_shape s.loadFromCheck.loadFromControl.loadFromRequesters.loadFromPreloadStart
    rw [h', h]
    exact ⟨_, _, _, _, _, rfl⟩
  unfold State.loadRest
  obtain ⟨_, _, _, _, _, h⟩ := c5
  obtain ⟨_, _, _, h'⟩ := h6 s.loadFromCheck.loadFromControl.loadFromRequesters.loadFromPreloadStart.loadFromPreload
  rw [h', h]
  exact ⟨_, _, _, _, _, _, rfl⟩
@[simp] theorem loadRest_port (s : State) : (s.loadRest).port = s.port := by
  obtain ⟨_, _, _, _, _, _, h⟩ := loadRest_shape s; rw [h]
@[simp] theorem loadRest_claims (s : State) : (s.loadRest).claims = s.claims := by
  obtain ⟨_, _, _, _, _, _, h⟩ := loadRest_shape s; rw [h]
@[simp] theorem loadRest_queue (s : State) : (s.loadRest).queue = s.queue := by
  obtain ⟨_, _, _, _, _, _, h⟩ := loadRest_shape s; rw [h]
@[simp] theorem loadRest_batch (s : State) : (s.loadRest).batch = s.batch := by
  obtain ⟨_, _, _, _, _, _, h⟩ := loadRest_shape s; rw [h]
@[simp] theorem loadRest_drain (s : State) : (s.loadRest).drain = s.drain := by
  obtain ⟨_, _, _, _, _, _, h⟩ := loadRest_shape s; rw [h]
@[simp] theorem loadRest_sweep (s : State) : (s.loadRest).sweep = s.sweep := by
  obtain ⟨_, _, _, _, _, _, h⟩ := loadRest_shape s; rw [h]
@[simp] theorem loadRest_mgmt (s : State) : (s.loadRest).mgmt = s.mgmt := by
  obtain ⟨_, _, _, _, _, _, h⟩ := loadRest_shape s; rw [h]
@[simp] theorem loadRest_board (s : State) : (s.loadRest).board = s.board := by
  obtain ⟨_, _, _, _, _, _, h⟩ := loadRest_shape s; rw [h]
@[simp] theorem loadRest_resetLow (s : State) : (s.loadRest).resetLow = s.resetLow := by
  obtain ⟨_, _, _, _, _, _, h⟩ := loadRest_shape s; rw [h]
@[simp] theorem loadRest_loads (s : State) : (s.loadRest).loads = s.loads := by
  obtain ⟨_, _, _, _, _, _, h⟩ := loadRest_shape s; rw [h]
@[simp] theorem loadRest_now (s : State) : (s.loadRest).now = s.now := by
  obtain ⟨_, _, _, _, _, _, h⟩ := loadRest_shape s; rw [h]
@[simp] theorem loadRest_free (s : State) : (s.loadRest).free = s.free := by
  obtain ⟨_, _, _, _, _, _, h⟩ := loadRest_shape s; rw [h]
@[simp] theorem loadRest_pending (s : State) : (s.loadRest).pending = s.pending := by
  obtain ⟨_, _, _, _, _, _, h⟩ := loadRest_shape s; rw [h]

/-- The phase becomes RUNNING (12 R187, R189). -/
theorem enterRunning_shape (s : State) :
    ∃ x9 x10 x12, s.enterRunning = { s with errors := x9, settings := x10, loader := x12 } := by
  exact ⟨_, _, _, rfl⟩
@[simp] theorem enterRunning_store (s : State) : (s.enterRunning).store = s.store := by
  obtain ⟨_, _, _, h⟩ := enterRunning_shape s; rw [h]
@[simp] theorem enterRunning_port (s : State) : (s.enterRunning).port = s.port := by
  obtain ⟨_, _, _, h⟩ := enterRunning_shape s; rw [h]
@[simp] theorem enterRunning_requesters (s : State) : (s.enterRunning).requesters = s.requesters := by
  obtain ⟨_, _, _, h⟩ := enterRunning_shape s; rw [h]
@[simp] theorem enterRunning_claims (s : State) : (s.enterRunning).claims = s.claims := by
  obtain ⟨_, _, _, h⟩ := enterRunning_shape s; rw [h]
@[simp] theorem enterRunning_queue (s : State) : (s.enterRunning).queue = s.queue := by
  obtain ⟨_, _, _, h⟩ := enterRunning_shape s; rw [h]
@[simp] theorem enterRunning_batch (s : State) : (s.enterRunning).batch = s.batch := by
  obtain ⟨_, _, _, h⟩ := enterRunning_shape s; rw [h]
@[simp] theorem enterRunning_drain (s : State) : (s.enterRunning).drain = s.drain := by
  obtain ⟨_, _, _, h⟩ := enterRunning_shape s; rw [h]
@[simp] theorem enterRunning_freeze (s : State) : (s.enterRunning).freeze = s.freeze := by
  obtain ⟨_, _, _, h⟩ := enterRunning_shape s; rw [h]
@[simp] theorem enterRunning_sweep (s : State) : (s.enterRunning).sweep = s.sweep := by
  obtain ⟨_, _, _, h⟩ := enterRunning_shape s; rw [h]
@[simp] theorem enterRunning_mgmt (s : State) : (s.enterRunning).mgmt = s.mgmt := by
  obtain ⟨_, _, _, h⟩ := enterRunning_shape s; rw [h]
@[simp] theorem enterRunning_board (s : State) : (s.enterRunning).board = s.board := by
  obtain ⟨_, _, _, h⟩ := enterRunning_shape s; rw [h]
@[simp] theorem enterRunning_resetLow (s : State) : (s.enterRunning).resetLow = s.resetLow := by
  obtain ⟨_, _, _, h⟩ := enterRunning_shape s; rw [h]
@[simp] theorem enterRunning_loads (s : State) : (s.enterRunning).loads = s.loads := by
  obtain ⟨_, _, _, h⟩ := enterRunning_shape s; rw [h]
@[simp] theorem enterRunning_now (s : State) : (s.enterRunning).now = s.now := by
  obtain ⟨_, _, _, h⟩ := enterRunning_shape s; rw [h]
@[simp] theorem enterRunning_free (s : State) : (s.enterRunning).free = s.free := by
  obtain ⟨_, _, _, h⟩ := enterRunning_shape s; rw [h]
@[simp] theorem enterRunning_pending (s : State) : (s.enterRunning).pending = s.pending := by
  obtain ⟨_, _, _, h⟩ := enterRunning_shape s; rw [h]

/-- The loader's part in a ns (log 5). -/
theorem loadTick_shape (s : State) :
    ∃ x0 x2 x7 x9 x10 x12 x16, s.loadTick = { s with store := x0, requesters := x2, freeze := x7, errors := x9, settings := x10, loader := x12, free := x16 } := by
  unfold State.loadTick
  dsimp only
  split
  · split
    · obtain ⟨_, _, _, _, _, _, h⟩ := loadPiece_shape { s with free := s.free + 1 }
      rw [h]; exact ⟨_, _, _, _, _, _, _, rfl⟩
    · exact ⟨_, _, _, _, _, _, _, rfl⟩
  · exact ⟨_, _, _, _, _, _, _, rfl⟩

end Sys2Proof.Machine.State
end

