-- ==== Sys2Proof/Laws/Values.lean ====
section
/-! SUPPORT. What the shared operations and searches give: vectors built and updated, the first index with a property, a
read with the parity check, errors recorded, faults, the end of an event, parity as a count of ones, the image's words and
what a piece of the load keeps. -/

namespace Sys2Proof.Machine

/-! ### Vectors -/

@[simp] theorem tabulate_get {α : Type} {n : Nat} (g : Fin n → α) (i : Nat) (h : i < n) : (tabulate g)[i] = g ⟨i, h⟩ := by
  simp [tabulate]

theorem set_get_self {α : Type} {n : Nat} (v : Vector α n) (i : Fin n) (x : α) : (v.set i x)[i] = x := by simp

theorem set_get_ne {α : Type} {n : Nat} (v : Vector α n) {i j : Fin n} (x : α) (h : j ≠ i) : (v.set i x)[j] = v[j] := by
  have : i.val ≠ j.val := fun e => h (Fin.ext e.symm)
  simp [this]

/-! ### The lowest index with a property -/

theorem pairwise_finRange (n : Nat) : (List.finRange n).Pairwise (· < ·) := List.pairwise_lt_finRange n

theorem find_eq_some_iff {α : Type} [LinearOrder α] {p : α → Bool} {l : List α} (hl : l.Pairwise (· < ·)) (a : α) :
    l.find? p = some a ↔ a ∈ l ∧ p a = true ∧ ∀ b ∈ l, b < a → p b = false := by
  induction l with
  | nil => simp
  | cons x l ih =>
    rw [List.pairwise_cons] at hl
    by_cases hx : p x = true
    · rw [List.find?_cons_of_pos hx]
      constructor
      · rintro ⟨⟩
        refine ⟨by simp, hx, ?_⟩
        intro b hb hlt
        rcases List.mem_cons.1 hb with rfl | hb
        · exact absurd hlt (lt_irrefl _)
        · exact absurd (lt_trans hlt (hl.1 b hb)) (lt_irrefl _)
      · rintro ⟨ha, _, hmin⟩
        rcases List.mem_cons.1 ha with rfl | ha
        · rfl
        · have := hmin x (by simp) (hl.1 a ha)
          rw [hx] at this
          exact absurd this (by simp)
    · rw [List.find?_cons_of_neg hx, ih hl.2]
      constructor
      · rintro ⟨ha, hp, hmin⟩
        refine ⟨by simp [ha], hp, ?_⟩
        intro b hb hlt
        rcases List.mem_cons.1 hb with rfl | hb
        · simpa using hx
        · exact hmin b hb hlt
      · rintro ⟨ha, hp, hmin⟩
        rcases List.mem_cons.1 ha with rfl | ha
        · exact absurd hp hx
        · exact ⟨ha, hp, fun b hb => hmin b (by simp [hb])⟩

/-- The lowest index with the property is `a`. -/
theorem find_finRange_some {n : Nat} {p : Fin n → Bool} {a : Fin n} :
    (List.finRange n).find? p = some a ↔ p a = true ∧ ∀ b, b < a → p b = false := by
  cases n with
  | zero => exact a.elim0
  | succ m => simp [find_eq_some_iff (pairwise_finRange (m + 1))]

/-- No index has the property. -/
theorem find_finRange_none {n : Nat} {p : Fin n → Bool} :
    (List.finRange n).find? p = none ↔ ∀ b, p b = false := by
  simp [List.find?_eq_none]

/-- The number as an index. -/
theorem indexBelow_of_eq {n v : Nat} (i : Fin n) (h : i.val = v) : indexBelow n v = some i := by
  subst h
  simp [indexBelow]

theorem indexBelow_of_ge {n v : Nat} (h : n ≤ v) : indexBelow n v = none := by
  simp [indexBelow, Nat.not_lt.2 h]

theorem indexBelow_some {n v : Nat} {i : Fin n} (h : indexBelow n v = some i) : i.val = v := by
  unfold indexBelow at h
  split at h
  · exact (congrArg Fin.val (Option.some.inj h)).symm
  · exact absurd h (by simp)

/-! ### The Error Unit -/

@[simp] theorem recordError_events (st : Settings) (e : ErrorRecord) (u : ErrorUnit) :
    (recordError st e u).events = u.events := rfl

theorem recordError_of_empty (st : Settings) (e : ErrorRecord) {u : ErrorUnit} (h : u.first = none) :
    (recordError st e u).first = some e ∧ (recordError st e u).next = u.next := by
  simp [recordError, h]

theorem recordError_of_held (st : Settings) (e : ErrorRecord) {u : ErrorUnit} {x : ErrorRecord} (h : u.first = some x) :
    (recordError st e u).first = some x ∧ (recordError st e u).next = u.next ||| errorBit e := by
  simp [recordError, h]

@[simp] theorem raiseEvent_events (k : EventKind) (u : ErrorUnit) : (raiseEvent k u).events = u.events ||| eventBit k := rfl

/-! ### Reads with the parity check (01 R16, R17) -/

theorem readEntry_of_passes {s : State} {i : EntryIx} (h : s.readFails i = false) (f : Finder) : s.readEntry f i = s := by
  simp [State.readEntry, h]

theorem readEntry_of_fails {s : State} {i : EntryIx} (h : s.readFails i = true) (f : Finder) :
    s.readEntry f i = s.poison f i := by
  simp [State.readEntry, h]

theorem entry_poison (s : State) (f : Finder) (i : EntryIx) :
    (s.poison f i).entry i = ⟨.poisoned, (s.entry i).claimCount, (s.entry i).generation + 1#16, false⟩ := by
  refine (State.entry_congr (s := s.putEntry i (replaceEntry (s.entry i) .poisoned)) rfl i).trans ?_
  rw [State.entry_putEntry_listed]
  · rfl
  · exact poisoned_ne_cleared _ _ _

theorem entry_poison_ne (s : State) (f : Finder) {i j : EntryIx} (h : j ≠ i) : (s.poison f i).entry j = s.entry j :=
  (State.entry_congr (s := s.putEntry i (replaceEntry (s.entry i) .poisoned)) rfl j).trans (State.entry_putEntry_ne s _ h)

theorem entry_readEntry_ne (s : State) (f : Finder) {i j : EntryIx} (h : j ≠ i) : (s.readEntry f i).entry j = s.entry j := by
  unfold State.readEntry
  split
  · exact entry_poison_ne s f h
  · rfl

/-- A read never changes a claim count (01 R17). -/
theorem claimCount_readEntry (s : State) (f : Finder) (i j : EntryIx) :
    ((s.readEntry f i).entry j).claimCount = (s.entry j).claimCount := by
  by_cases h : j = i
  · subst h
    unfold State.readEntry
    split
    · rw [entry_poison]
    · rfl
  · rw [entry_readEntry_ne s f h]

/-! ### Requesters -/

@[simp] theorem fault_defaults (r : ReqId) (k : FaultKind) (s : State) :
    (s.fault r k).requesters.defaults = s.requesters.defaults := by
  unfold State.fault
  dsimp only
  split
  · split <;> rfl
  · rfl

@[simp] theorem fault_domains (r : ReqId) (k : FaultKind) (s : State) :
    (s.fault r k).requesters.domains = s.requesters.domains := by
  unfold State.fault
  dsimp only
  split
  · split <;> rfl
  · rfl

/-- A fault of one requester leaves the others' records (02 R29). -/
theorem fault_other (r q : ReqId) (k : FaultKind) (s : State) (h : q ≠ r) : (s.fault r k).requester q = s.requester q := by
  unfold State.fault
  dsimp only
  split
  · split
    · exact set_get_ne s.requesters.live _ h
    · exact set_get_ne s.requesters.live _ h
  · rfl

/-- A fault leaves domain, claim limit and clearing (02 R29, R30). -/
theorem fault_self_fields (r : ReqId) (k : FaultKind) (s : State) :
    ((s.fault r k).requester r).domain = (s.requester r).domain ∧ ((s.fault r k).requester r).limit = (s.requester r).limit
      ∧ ((s.fault r k).requester r).clearing = (s.requester r).clearing := by
  unfold State.fault
  dsimp only
  split
  · split
    · simp [State.requester, State.report, State.putRequester]
    · simp [State.requester, State.report, State.putRequester]
  · exact ⟨rfl, rfl, rfl⟩

@[simp] theorem endWalk_live (w : Walk) (x : WalkEnd) (s : State) : (s.endWalk w x).requesters.live = s.requesters.live := by
  unfold State.endWalk State.reopen
  split <;> rfl

@[simp] theorem endWalk_defaults (w : Walk) (x : WalkEnd) (s : State) :
    (s.endWalk w x).requesters.defaults = s.requesters.defaults := by
  unfold State.endWalk State.reopen
  split <;> rfl

@[simp] theorem endWalk_walk (w : Walk) (x : WalkEnd) (s : State) : (s.endWalk w x).sweep.walk = none := rfl

/-! ### The end of an event (09 R154) -/

/-- With no walk waiting for a drain item, an event ends as it stands. -/
theorem settle_of_not_waiting {s t : State} (h : t.waitingWalk = none) : settle s t = t := by
  simp [settle, h]

theorem settle_cases (s t : State) : settle s t = t ∨ settle s t = t.retake := by
  unfold settle
  split
  · split
    · exact Or.inr rfl
    · exact Or.inl rfl
  · exact Or.inl rfl

/-- An event that removes no drain item and leaves the entry a walk waits for retakes nothing. -/
theorem settle_of_same {s t : State} (hd : s.drain.length ≤ t.drain.length)
    (he : ∀ w, t.waitingWalk = some w → t.entry w.cursor = s.entry w.cursor) : settle s t = t := by
  unfold settle
  split
  · rename_i w hw
    rw [if_neg]
    unfold retakeDue
    rw [he w hw]
    simp only [Bool.or_eq_true, Bool.and_eq_true, decide_eq_true_eq]
    rintro ((h | ⟨h, h'⟩) | ⟨h, h'⟩)
    · omega
    · exact h h'
    · exact h h'
  · rfl

/-! ### Every operation that stores an entry keeps the canonical form -/

theorem canonical_poison {s : State} (h : Canonical s) (f : Finder) (i : EntryIx) : Canonical (s.poison f i) :=
  canonical_congr (s := s.putEntry i (replaceEntry (s.entry i) .poisoned)) rfl (canonical_putEntry h i _)

theorem canonical_readEntry {s : State} (h : Canonical s) (f : Finder) (i : EntryIx) : Canonical (s.readEntry f i) := by
  unfold State.readEntry
  split
  · exact canonical_poison h f i
  · exact h

theorem canonical_completeDrain {s : State} (h : Canonical s) (i : EntryIx) : Canonical (s.completeDrain i) :=
  canonical_congr (s := s.putEntry i (replaceEntry (s.entry i) .vacant)) rfl (canonical_putEntry h i _)

theorem canonical_lowerCount {s : State} (h : Canonical s) (i : EntryIx) : Canonical (s.lowerCount i) := by
  have h1 := canonical_putEntry h i { s.entry i with claimCount := lowered (s.entry i).claimCount s.free }
  unfold State.lowerCount
  dsimp only
  split
  · exact canonical_completeDrain h1 i
  · exact h1

theorem canonical_raiseCount {s : State} (h : Canonical s) (i : EntryIx) : Canonical (s.raiseCount i) :=
  canonical_putEntry h i _

theorem canonical_freeClaim {s : State} (h : Canonical s) (t : Tag) : Canonical (s.freeClaim t) := by
  unfold State.freeClaim
  split
  · exact h
  · exact h
  · exact canonical_lowerCount (s := s.putClaim t .free) h _

theorem canonical_dropSlot {s : State} (h : Canonical s) (k : SlotIx) : Canonical (s.dropSlot k) := by
  unfold State.dropSlot
  split
  · exact canonical_freeClaim (s := s.putSlot k .empty) h _
  · exact h

theorem canonical_dropSlotsOf {s : State} (h : Canonical s) (r : ReqId) : Canonical (s.dropSlotsOf r) := by
  unfold State.dropSlotsOf
  refine State.foldl_keeps (p := Canonical) ?_ _ h
  intro u k hu
  split
  · exact canonical_dropSlot hu k
  · exact hu

theorem canonical_endDrain {s : State} (h : Canonical s) (i : EntryIx) : Canonical (s.endDrain i) :=
  canonical_congr (s := s.putEntry i { replaceEntry (s.entry i) .vacant with claimCount := 0 }) rfl
    (canonical_putEntry h i _)

theorem canonical_sweepWrite {s : State} (h : Canonical s) (i : EntryIx) (c : Contents) : Canonical (s.sweepWrite i c) :=
  canonical_congr (s := s.putEntry i (rewriteEntry (s.entry i) (s.entry i).contents c false)) rfl
    (canonical_putEntry h i _)

theorem canonical_claimAndGrant {s : State} (h : Canonical s) (q : Request) (i : EntryIx) (p : Placement) :
    Canonical (s.claimAndGrant q i p).1 := by
  unfold State.claimAndGrant
  dsimp only
  split
  · exact h
  · split
    · exact h
    · exact canonical_raiseCount (s := s.putClaim _ _) h i

theorem canonical_entryTests {s : State} (h : Canonical s) (q : Request) (i : EntryIx) :
    Canonical (s.entryTests q i).1 := by
  have h1 := canonical_readEntry h .resolve i
  unfold State.entryTests
  dsimp only
  (repeat' split) <;> first
    | exact h1
    | exact canonical_claimAndGrant h1 q i _

theorem canonical_applyOp {s : State} (h : Canonical s) (x : BatchOp) (c : ValidatedCopy) : Canonical (s.applyOp x c).1 := by
  unfold State.applyOp State.applyRevoke
  dsimp only
  (repeat' split) <;> first
    | exact canonical_putEntry h _ _
    | exact h

theorem canonical_takePreload {r : PreloadRun} (h : Canonical r.state) (a b c : ImageWord) :
    Canonical (takePreload a b c r).state := by
  unfold takePreload
  split
  · split
    · exact h
    · exact canonical_putEntry h _ _
  · exact h

/-! ### Parity (01 R15) -/

/-- The ones of two codes together. -/
theorem oddOnes_append {m n : Nat} (a : BitVec m) (b : BitVec n) : oddOnes (a ++ b) = (oddOnes a ^^ oddOnes b) := by
  have fold : ∀ (l : List Nat) (g : Nat → Bool) (x : Bool),
      l.foldl (fun b i => b ^^ g i) x = (x ^^ l.foldl (fun b i => b ^^ g i) false) := by
    intro l g
    induction l with
    | nil => intro x; simp
    | cons h l ih => intro x; simp only [List.foldl_cons]; rw [ih, ih (false ^^ g h)]; simp
  have hr : List.range (m + n) = List.range n ++ (List.range m).map (n + ·) := by rw [Nat.add_comm, List.range_add]
  unfold oddOnes
  rw [hr, List.foldl_append, fold, Bool.xor_comm]
  congr 1
  · rw [List.foldl_map]
    congr 1
    funext b i
    simp [BitVec.getLsbD_append]
  · apply List.foldl_ext
    intro c i hi
    rw [List.mem_range] at hi
    simp [BitVec.getLsbD_append, hi]

/-- The number of ones is odd. -/
theorem oddOnes_count {w : Nat} (a : BitVec w) :
    oddOnes a = decide ((List.range w).countP (fun k => a.getLsbD k) % 2 = 1) := by
  have fold : ∀ (l : List Nat) (g : Nat → Bool), l.foldl (fun b i => b ^^ g i) false = decide (l.countP g % 2 = 1) := by
    intro l g
    induction l using List.reverseRecOn with
    | nil => rfl
    | append_singleton l x ih =>
      rw [List.foldl_append, ih, List.countP_append]
      cases hx : g x <;> by_cases h : l.countP g % 2 = 1 <;> simp [hx, h]
      all_goals omega
  exact fold _ _

/-! ### The image (12 R183) -/

theorem nvmReadCommand_code (a : Nat) : (nvmReadCommand a).extractLsb' 24 8 = 0x03#8 := BitVec.extractLsb'_append_eq_left

theorem nvmReadCommand_address (a : Nat) : (nvmReadCommand a).setWidth 24 = BitVec.ofNat 24 a :=
  BitVec.setWidth_append_eq_right

/-- The words of the image by the NVM's bytes, inside the 24-bit byte addresses. -/
theorem nvmWords_bytes (m : List Byte) {start n : Nat} (h : start + n ≤ 8388608) : nvmWords m start n =
    (List.range n).map (fun k => nvmByte m (2 * (start + k)) ++ nvmByte m (2 * (start + k) + 1)) := by
  unfold nvmWords nvmAnswer
  simp only [nvmReadCommand_address, nvmReadCommand_code, if_true, BitVec.toNat_ofNat]
  refine List.map_congr_left fun k hk => ?_
  rw [List.mem_range] at hk
  rw [Nat.mod_eq_of_lt (by omega), Nat.mul_add]

theorem nvmWord_bytes (m : List Byte) {k : Nat} (h : k < 8388608) :
    nvmWord m k = nvmByte m (2 * k) ++ nvmByte m (2 * k + 1) := by
  rw [nvmWord, nvmWords_bytes m (by omega)]
  rfl

theorem nvmWords_words (m : List Byte) {start n : Nat} (h : start + n ≤ 8388608) :
    nvmWords m start n = (List.range n).map (fun k => nvmWord m (start + k)) := by
  rw [nvmWords_bytes m h]
  refine List.map_congr_left fun k hk => ?_
  rw [List.mem_range] at hk
  exact (nvmWord_bytes m (by omega)).symm

/-! ### The load of the image: what a skipped item does, and the phase (12 R184 to R187) -/

@[simp] theorem reportSkipped_none (x : ImageItem) (f : ImageFlags → ImageFlags) (s : State) : s.reportSkipped x 0 f = s := rfl

theorem reportSkipped_some (x : ImageItem) {n : Nat} (h : n ≠ 0) (f : ImageFlags → ImageFlags) (s : State) :
    s.reportSkipped x n f = { s with
      loader := { s.loader with flags := f s.loader.flags }
      errors := recordError s.settings (.image x (some (min n 255))) s.errors } := by
  unfold State.reportSkipped
  rw [if_neg h]
  rfl

@[simp] theorem reportSkipped_phase (x : ImageItem) (n : Nat) (f : ImageFlags → ImageFlags) (s : State) :
    (s.reportSkipped x n f).loader.phase = s.loader.phase := by
  unfold State.reportSkipped
  split <;> rfl

@[simp] theorem applyControl_phase (c : ControlValues) (s : State) : (s.applyControl c).loader.phase = s.loader.phase :=
  reportSkipped_phase _ _ _ _

@[simp] theorem applyRequesters_phase (v : RequesterValues) (s : State) :
    (s.applyRequesters v).loader.phase = s.loader.phase :=
  reportSkipped_phase _ _ _ _

@[simp] theorem loadControl_phase (s : State) : s.loadControl.loader.phase = s.loader.phase := by
  unfold State.loadControl
  split <;> exact applyControl_phase _ _

@[simp] theorem loadRequesters_phase (s : State) : s.loadRequesters.loader.phase = s.loader.phase := by
  unfold State.loadRequesters
  split <;> exact applyRequesters_phase _ _

@[simp] theorem loadPreloadStart_phase (s : State) : s.loadPreloadStart.loader.phase = s.loader.phase := by
  unfold State.loadPreloadStart
  split <;> rfl

@[simp] theorem endPreload_phase (n : Nat) (s : State) : (s.endPreload n).loader.phase = s.loader.phase :=
  reportSkipped_phase _ _ _ _

@[simp] theorem preloadRecords_loader (l : List ImageWord) (r : PreloadRun) :
    (preloadRecords l r).state.loader = r.state.loader := by
  obtain ⟨_, h⟩ := State.preloadRecords_shape l r
  rw [h]

@[simp] theorem loadFromPreload_phase (s : State) : s.loadFromPreload.loader.phase = s.loader.phase := by
  unfold State.loadFromPreload
  split
  · exact (endPreload_phase _ _).trans (by rw [preloadRecords_loader])
  · rfl

@[simp] theorem loadFreeze_phase (s : State) : s.loadFreeze.loader.phase = s.loader.phase := by
  unfold State.loadFreeze
  split
  · rfl
  · exact reportSkipped_phase _ _ _ _
  · split
    · split
      · rfl
      · exact reportSkipped_phase _ _ _ _
    · exact reportSkipped_phase _ _ _ _

/-! ### The load piece by piece (12 R183, R186; log 5) -/

/-- A record does the same whatever the work field holds. -/
theorem takePreload_putWork (w : LoadWork) (a b c : ImageWord) (r : PreloadRun) :
    takePreload a b c { r with state := r.state.putWork w } =
      { takePreload a b c r with state := (takePreload a b c r).state.putWork w } := by
  unfold takePreload
  split
  · split <;> rfl
  · rfl

/-- The records do the same whatever the work field holds. -/
theorem preloadRecords_putWork (w : LoadWork) (l : List ImageWord) (r : PreloadRun) :
    preloadRecords l { r with state := r.state.putWork w } =
      { preloadRecords l r with state := (preloadRecords l r).state.putWork w } := by
  fun_induction preloadRecords l r with
  | case1 a b c rest r ih => rw [preloadRecords, takePreload_putWork, ih]
  | case2 => rfl
  | case3 x r h1 h2 =>
    match x, h1, h2 with
    | [], _, h2 => exact absurd rfl h2
    | [a], _, _ => rfl
    | [a, b], _, _ => rfl
    | a :: b :: c :: rest, h1, _ => exact absurd rfl (h1 a b c rest)

/-- The end of the section sets the work field anew. -/
theorem endPreload_putWork (w : LoadWork) (n : Nat) (s : State) : (s.putWork w).endPreload n = s.endPreload n := by
  unfold State.endPreload State.reportSkipped
  by_cases h : n = 0
  · rw [if_pos h, if_pos h]; rfl
  · rw [if_neg h, if_neg h]; rfl

/-- A preload record taken as a piece of its own leaves the rest of the section to do what is left. -/
theorem loadPreloadRest_cons (a b c : ImageWord) (rest : List ImageWord) (m : List Nat) (n : Nat) (s : State) :
    let r := takePreload a b c ⟨s, m, n⟩
    (r.state.putWork (.preload rest r.installed r.skipped)).loadFromPreload = s.loadPreloadRest (a :: b :: c :: rest) m n := by
  intro r
  show State.loadPreloadRest rest r.installed r.skipped (r.state.putWork _) = _
  unfold State.loadPreloadRest
  have h := preloadRecords_putWork (.preload rest r.installed r.skipped) rest r
  rw [show (⟨r.state.putWork (.preload rest r.installed r.skipped), r.installed, r.skipped⟩ : PreloadRun)
    = { r with state := r.state.putWork (.preload rest r.installed r.skipped) } from rfl, h]
  exact endPreload_putWork _ _ _

/-- After the Preload section comes the Freeze section, in RELOADING the end. -/
theorem loadPreloadRest_work (l : List ImageWord) (m : List Nat) (n : Nat) (s : State) :
    (s.loadPreloadRest l m n).loader.work = if s.loader.phase = .reloading then .finish else .freeze := by
  show (if (preloadRecords l ⟨s, m, n⟩).state.loader.phase = .reloading then LoadWork.finish else .freeze) = _
  rw [preloadRecords_loader]

@[simp] theorem loadPiece_phase (s : State) : s.loadPiece.loader.phase = s.loader.phase := by
  unfold State.loadPiece
  split
  · unfold State.loadCheck
    split <;> rfl
  · exact loadControl_phase s
  · exact loadRequesters_phase s
  · exact loadPreloadStart_phase s
  · unfold State.loadPreloadPiece
    split
    · rename_i m n _ a b c _ _
      obtain ⟨_, h⟩ := State.takePreload_shape a b c ⟨s, m, n⟩
      show (takePreload a b c ⟨s, m, n⟩).state.loader.phase = _
      rw [h]
    · exact (endPreload_phase _ _).trans (by rw [preloadRecords_loader])
  · exact loadFreeze_phase s
  · rfl
  · rfl

/-- A piece of the load taken beforehand is one that `loadRest` does not take (12 R183). -/
theorem loadPiece_loadRest (s : State) : s.loadPiece.loadRest.enterRunning = s.loadRest.enterRunning := by
  unfold State.loadPiece
  split <;> rename_i h
  · unfold State.loadCheck
    split <;> rename_i hf <;>
      simp [State.loadRest, State.loadFromCheck, h, State.loadCheck, hf, State.loadFromControl, State.loadFromRequesters,
        State.loadFromPreloadStart, State.loadFromPreload, State.loadFromFreeze, State.report, State.putWork, State.putFlags]
  · have e : s.loadControl.loader.work = .requester := rfl
    simp [State.loadRest, State.loadFromCheck, h, State.loadFromControl, e]
  · have e : s.loadRequesters.loader.work = .preloadStart := rfl
    simp [State.loadRest, State.loadFromCheck, h, State.loadFromControl, State.loadFromRequesters, e]
  · have e : ∃ l m n, s.loadPreloadStart.loader.work = .preload l m n := by
      unfold State.loadPreloadStart
      split <;> exact ⟨_, _, _, rfl⟩
    obtain ⟨_, _, _, e⟩ := e
    simp [State.loadRest, State.loadFromCheck, h, State.loadFromControl, State.loadFromRequesters,
      State.loadFromPreloadStart, e]
  · rename_i l m n
    have done (u : State) (hu : u.loader.work ≠ .check ∧ u.loader.work ≠ .control ∧ u.loader.work ≠ .requester
        ∧ u.loader.work ≠ .preloadStart) : u.loadRest = u.loadFromPreload.loadFromFreeze := by
      simp [State.loadRest, State.loadFromCheck, State.loadFromControl, State.loadFromRequesters,
        State.loadFromPreloadStart, hu]
    have hs : s.loadRest = (s.loadPreloadRest l m n).loadFromFreeze := by
      rw [done s (by simp [h])]; unfold State.loadFromPreload; rw [h]
    rw [hs]
    unfold State.loadPreloadPiece
    split
    · rename_i a b c rest
      dsimp only
      rw [done _ (by simp [State.putWork]), loadPreloadRest_cons]
    · have e := loadPreloadRest_work l m n s
      show (s.loadPreloadRest l m n).loadRest.enterRunning = _
      have k : (s.loadPreloadRest l m n).loadFromPreload = s.loadPreloadRest l m n := by
        unfold State.loadFromPreload; rw [e]; split <;> rename_i q <;> split at q <;> first | rfl | exact absurd q (by simp)
      rw [done _ (by rw [e]; split <;> simp), k]
  · have e : s.loadFreeze.loader.work = .finish := rfl
    simp [State.loadRest, State.loadFromCheck, h, State.loadFromControl, State.loadFromRequesters,
      State.loadFromPreloadStart, State.loadFromPreload, State.loadFromFreeze, e]
  · rfl
  · rfl

end Sys2Proof.Machine
end

