-- ==== Sys2Proof/Tests/Slice0.lean ====
section
/-! SUPPORT. Tests: ill-formed terms that the check refuses; for each command a step on a small state, the values from the
spec's worked examples where they give them; for each statement with hypotheses a state that meets them, clause by clause. -/

namespace Sys2Proof.Tests

open Machine

set_option Elab.async false

/-! ### Helpers -/

/-- The state of a next outcome. -/
def after (o : Host.Outcome State Fault Refusal) : State :=
  match o with
  | .next t => t
  | _ => State.reset

/-- The state after a command. -/
def run (c : Instr) (s : State) : State := after (exec c s)

/-- The part with no image, RUNNING. -/
def running : State := { State.reset with loader := { State.reset.loader with phase := .running, work := .nothing } }

/-- An entry whose parity agrees. -/
def good (c : Contents) (n : Fin 65) (g : Nat) : GrantEntry := ⟨c, n, BitVec.ofNat 16 g, evenParity c⟩

def live (domains : Nat) : Contents := .live ⟨0x2001#24, .readWrite, .snooped, BitVec.ofNat 8 domains⟩

def liveReadOnly (domains : Nat) : Contents := .live ⟨0x2001#24, .readOnly, .direct, BitVec.ofNat 8 domains⟩

def revoking (domains : Nat) : Contents := .revoking ⟨0x2001#24, .readWrite, .snooped, BitVec.ofNat 8 domains⟩

def put (i : EntryIx) (c : Contents) (n : Fin 65) (g : Nat) (s : State) : State := s.putEntry i (good c n g)

def enabled (r : ReqId) (d : Domain) (l : Fin 65) (s : State) : State := s.putRequester r ⟨.enabled, d, l, 0, none, none⟩

/-- The first address of a page of the 4 KiB window at base 0, plus an offset. -/
def page (i : Nat) (offset : Nat := 0) : Address := BitVec.ofNat 40 (4096 * i + offset)

def request (r : ReqId) (i : Nat) (dir : Dir) (claim : Bool) : Request := ⟨r, page i, dir, claim⟩

/-- The next byte goes to the command register, the operand bytes hold these values. -/
def commanded (ops : List Nat) (s : State) : State :=
  { s with mgmt := { s.mgmt with
    transaction := .writing, pointer := 0x5C#7, operands := tabulate (fun k => BitVec.ofNat 8 (ops.getD k.val 0)) } }

/-- A host command with these operand bytes. -/
def command (c : Instr) (ops : List Nat) (s : State) : State := run c (commanded ops s)

/-- A write transaction with the pointer at the address. -/
def writingAt (a : Nat) (s : State) : State :=
  { s with mgmt := { s.mgmt with transaction := .writing, pointer := BitVec.ofNat 7 a } }

/-- A read transaction with the pointer at the address. -/
def readingAt (a : Nat) (s : State) : State :=
  { s with mgmt := { s.mgmt with transaction := .reading, pointer := BitVec.ofNat 7 a } }

/-- A part with a few entries and an enabled requester 2 of domain 1; entry 646 drains until 1000 ns. -/
def small : State :=
  { (running |> enabled 2 1 4 |> put 641 (live 2) 0 3 |> put 643 (liveReadOnly 2) 0 1 |> put 644 (live 4) 0 2
      |> put 645 .poisoned 0 7 |> put 646 (revoking 2) 1 5 |> put 4095 (live 2) 63 9) with
    drain := [⟨646, some 1000⟩]
    claims := ClaimRegister.reset.set (10 : Tag) (.active ⟨2, 646, 4#16, .read⟩) }

/-- `small` with entry 647's parity wrong. -/
def damaged : State := small.putEntry 647 ⟨live 2, 0, 6#16, !evenParity (live 2)⟩

/-- Every claim record but 63 is in use, by requester 9. -/
def crowded : State := { small with claims := (Vector.replicate 64 (.orphaned ⟨9, 0, 0#16, .read⟩)).set (63 : Tag) .free }

/-- A delivered answer of each sort a slot can store. -/
def granted (t : Option Tag) : Response := ⟨.granted, some (.snooped, page 0x2001), some 3#16, t, some 641⟩

/-- `small` with slot 7 READY for the request on page 641, its answer carrying the claim of tag 5 when `carries`. -/
def stored (carries : Bool) : State :=
  { small with
    claims := if carries then small.claims.set (5 : Tag) (.active ⟨2, 641, 3#16, .read⟩) else small.claims
    store := if carries then (small.putEntry 641 (good (live 2) 1 3)).store else small.store
    queue := PendingQueue.reset.set (7 : SlotIx)
      (.ready (request 2 641 .read carries) 641 (granted (if carries then some 5 else none)) 500) }

/-- `small` with the group of page 641 locked by a commit of these ops. -/
def locked (ops : List BatchOp) (copies : List ValidatedCopy) (applied : Nat) (tally : Tally) : State :=
  { small with
    store := { small.store with lockMark := some 20 }
    batch := ⟨.committing 20 ops.length ops copies applied tally, none, .inProgress 20 ops.length⟩ }

def noTally : Tally := ⟨0, 0, 0, 0, 0⟩

/-- The Staging Buffer holds this. -/
def staged (x : Staging) (s : State) : State := { s with batch := { s.batch with staging := x } }

/-- A walk of this kind in this state at this entry, its report IN_PROGRESS. -/
def walking (x : WalkState) (k : WalkKind) (i : EntryIx) (s : State) : State :=
  { s with sweep := ⟨some ⟨x, k, i⟩, some ⟨.inProgress, freshSubject k, 0, i.val⟩⟩ }

/-- A Drain List with no free item; item 15 names entry 4095. -/
def fullDrains : DrainList := (List.range 16).map (fun k => ⟨Fin.ofNat 4096 (4080 + k), some 1000⟩)

/-- An image: no Control, Requester or Freeze section, a Preload section of one record for entry 300. -/
def image : List ImageWord :=
  [0x7C4E#16, 11#16, 0xFFFF#16, 0xFFFF#16, 6#16, 0xFFFF#16, 3#16, 300#16, 0#16, 0x0102#16, 0x8173#16]

/-- The bytes of words, each most significant byte first. -/
def bytesOf (words : List ImageWord) : List Byte := words.flatMap (fun w => [w.extractLsb' 8 8, w.setWidth 8])

/-- A board whose NVM holds these words at every load. -/
def boardOf (words : List ImageWord) : Board := ⟨false, 0#2, [bytesOf words]⟩

/-- Words 0 to L-2 with a check word. -/
def checked (words : List ImageWord) : List ImageWord := words ++ [0#16 - words.foldl (fun x w => x + w) 0#16]

/-- An image with the four sections; the offsets can be changed. The Control section: 64 KiB pages, threshold 15, an id that is
not known, an odd word; a Requester record; a Preload record for entry 4095; a Freeze range. -/
def sections (control requester preload freeze : Nat) : List Byte :=
  bytesOf (checked [0x7C4E#16, 24#16, BitVec.ofNat 16 control, BitVec.ofNat 16 requester, BitVec.ofNat 16 preload,
    BitVec.ofNat 16 freeze, 7#16, 1#16, 1#16, 0x14#16, 15#16, 0x99#16, 3#16, 5#16, 2#16, 0x0F01#16, 0x0740#16, 3#16, 0x0FFF#16,
    0#16, 0x0102#16, 1#16, 0x007F#16])

/-- The part LOADING what such an NVM holds. -/
def loadingFrom (m : List Byte) : State := run (.powerOn ⟨false, 0#2, [m]⟩) State.reset

/-- The part on a board with the image, LOADING. -/
def loading : State := run (.powerOn (boardOf image)) State.reset

/-! ### Well-formedness: ill-formed terms are refused -/

theorem test_wf_malformed_resolve : (Instr.malformedRequest 1#3).wf = false := by decide
theorem test_wf_malformed_release : (Instr.malformedRequest 2#3).wf = false := by decide
theorem test_wf_malformed_slotReset : (Instr.malformedRequest 3#3).wf = false := by decide
theorem test_wf_malformed_kinds : ∀ k ∈ [0#3, 4#3, 5#3, 6#3, 7#3], (Instr.malformedRequest k).wf = true := by decide
theorem test_wf_undefined_code : ∀ c ∈ commandCodes, (Instr.undefinedCommandCode c).wf = false := by decide
theorem test_wf_undefined_code_ok : (Instr.undefinedCommandCode 0x05#8).wf = true := by decide
theorem test_wf_alertAssertedClear : (Instr.alertAssertedClear 0b110#8).wf = false := by decide
theorem test_wf_overrideClear : (Instr.overrideClear 0b101#8).wf = false := by decide
theorem test_wf_overrideSet : (Instr.overrideSet 0b011#8).wf = false := by decide
theorem test_wf_powerOn_too_long (m : List Byte) (h : m.length = nvmBytesMax + 1) :
    (Instr.powerOn ⟨false, 0#2, [m]⟩).wf = false := by
  have h' : ¬ (m.length ≤ nvmBytesMax) := by omega
  simp [Instr.wf, h']
theorem test_no_row_has_bits : ∀ n w, decodeTableWord n w = none := fun _ _ => rfl

/-! ### One step of each command -/

theorem test_resolve : (run (.resolve 2 (page 641 0x10) .read true) small).port =
    .answered ⟨.granted, some (.snooped, 0x2001010#40), some 3#16, some 0, some 641⟩ := by decide +kernel
theorem test_resolve_counts : ((run (.resolve 2 (page 641) .read true) small).entry 641).claimCount = 1 := by decide +kernel
theorem test_release : (run (.release 2 10) small).entry 646 = ⟨.vacant, 0, 6#16, false⟩ := by decide +kernel
theorem test_release_answer : (run (.release 2 10) small).port =
    .answered ⟨.released, none, some 4#16, some 10, some 646⟩ := by decide +kernel
theorem test_slotReset : ((run (.slotReset 2) (stored true)).claims[(5 : Tag)], (run (.slotReset 2) (stored true)).port) =
    (.free, .holding 2) := by decide +kernel
theorem test_malformedRequest : (run (.malformedRequest 7#3) small).errors.first = some (.portProtocol 7#3) := by
  decide +kernel
theorem test_rspTaken : (run .rspTaken { small with port := .answered (granted none) }).port = .ready := by decide +kernel
theorem test_requesterClearingFree : (run (.requesterClearingFree 2) (small.acceptClearing 2 .toDefaults)).claims[(10 : Tag)]
    = .free := by decide +kernel
theorem test_requesterClearingCompletion :
    (run (.requesterClearingCompletion 3) (running.acceptClearing 3 (.toDisabled 5 6))).requester 3 =
      ⟨.disabled, 5, 6, 0, none, none⟩ := by decide +kernel
theorem test_quarantineDeadlineExpiry :
    (run (.quarantineDeadlineExpiry 3) (running.putRequester 3 ⟨.quarantined, 1, 4, 2, some 0, none⟩)).requester 3 =
      ⟨.enabled, 1, 4, 2, none, none⟩ := by decide +kernel
theorem test_discardDeadlineExpiry :
    (run (.discardDeadlineExpiry 7) { stored true with now := 500 }).claims[(5 : Tag)] = .free := by decide +kernel
theorem test_discardDeadlineExpiry_errors :
    (run (.discardDeadlineExpiry 7) { stored true with now := 500 }).errors.first = some (.discard 2 7) := by decide +kernel
theorem test_drainExpiry : (run (.drainExpiry 0) { small with now := 1000 }).claims[(10 : Tag)] =
    .orphaned ⟨2, 646, 4#16, .read⟩ := by decide +kernel
theorem test_drainExpiry_error : (run (.drainExpiry 0) { small with now := 1000 }).errors.first =
    some (.drainExpired 646 1) := by decide +kernel
theorem test_commitValidation : (run .commitValidation (locked [.revoke 641] [] 0 noTally)).batch.staging =
    .committing 20 1 [.revoke 641] [⟨live 2, 0⟩] 0 noTally := by decide +kernel
theorem test_commitValidation_rejects : (run .commitValidation (locked [.revoke 640] [] 0 noTally)).batch.result =
    .rejected 20 1 .notLive 640 0 := by decide +kernel
theorem test_commitApplication : (run .commitApplication (locked [.revoke 641] [⟨live 2, 0⟩] 0 noTally)).entry 641 =
    ⟨.vacant, 0, 4#16, false⟩ := by decide +kernel
theorem test_commitCompletion :
    (run .commitCompletion (locked [.revoke 641] [⟨live 2, 0⟩] 1 ⟨0, 0, 1, 0, 0⟩)).batch =
      ⟨.idle, none, .ok 20 1 ⟨0, 0, 1, 0, 0⟩⟩ := by decide +kernel
theorem test_sweepStep : (run .sweepStep (walking .running (.domainSweep 1) 641 small)).entry 641 =
    ⟨.vacant, 0, 4#16, false⟩ := by decide +kernel
theorem test_sweepStep_waits :
    (run .sweepStep (walking .running (.domainSweep 1) 4095 { small with drain := fullDrains.set 15 ⟨1, none⟩ })).sweep.walk =
      some ⟨.waitingDrain, .domainSweep 1, 4095⟩ := by decide +kernel
theorem test_scrubStep : (run .scrubStep (walking .running .scrub 647 damaged)).entry 647 =
    ⟨.poisoned, 0, 7#16, false⟩ := by decide +kernel
theorem test_scrubStep_completes : (run .scrubStep (walking .running .scrub 4095 small)).sweep =
    ⟨none, some ⟨.complete, .scrub, 0, 4096⟩⟩ := by decide +kernel
theorem test_sweepRetake :
    ((run .sweepRetake (walking .waitingDrain (.domainSweep 1) 4095 small)).entry 4095).contents = revoking 0 := by
  decide +kernel
theorem test_imageLoadDone : (run .imageLoadDone loading).entry 300 =
    good (.live ⟨1#24, .readOnly, .snooped, 2#8⟩) 0 1 := by decide +kernel
theorem test_imageLoadDone_events : (run .imageLoadDone loading).errors = ⟨none, 0#9, 0b01000#5, true, false⟩ := by
  decide +kernel
theorem test_imageSections :
    let t := run .imageLoadDone (loadingFrom (sections 6 14 17 0xFFFF))
    t.store.pageSize = .k64 ∧ t.settings.threshold = 15#4 ∧ t.loader.flags.controlSkipped = true
      ∧ t.requester 15 = ⟨.enabled, 7, 64, 0, none, none⟩
      ∧ (t.entry 4095).contents = .live ⟨1#24, .readOnly, .snooped, 2#8⟩
      ∧ t.errors.first = some (.image .control (some 2)) ∧ t.loader.capture = some ⟨17, 3⟩ := by decide +kernel
theorem test_preloadReloadDone :
    ((run .preloadReloadDone (command .tableReset [] (run .imageLoadDone loading))).entry 300).contents =
      .live ⟨1#24, .readOnly, .snooped, 2#8⟩ := by decide +kernel
/-- An NVM that answered at the full reset and does not at the reload: the record is skipped and counted (12 R189). -/
theorem test_reload_unanswered :
    let s := run (.powerOn ⟨false, 0#2, [bytesOf image, []]⟩) State.reset
    let t := run .preloadReloadDone (command .tableReset [] (run .imageLoadDone s))
    (t.entry 300).contents = .vacant ∧ t.errors.first = some (.image .preload (some 1)) := by decide +kernel
/-- The read command's 32 bits are 0x03, then the byte address; the words come most significant byte first (12 R183). -/
theorem test_nvmWords : nvmReadCommand 6 = 0x03000006#32 ∧ nvmWords (bytesOf image) 3 2 = [0xFFFF#16, 6#16]
    ∧ (bytesOf image).take 2 = [0x7C#8, 0x4E#8] ∧ nvmAnswer (bytesOf image) 0x0B000000#32 1 = [0xFFFF#16] := by
  decide +kernel
theorem test_requestOf :
    requestOf ⟨1#3, 9#4, 1#1, 1#1, 63#6, 0x1234#40⟩ = .resolve 9 0x1234#40 .write true
    ∧ requestOf ⟨1#3, 9#4, 0#1, 0#1, 63#6, 0x1234#40⟩ = .resolve 9 0x1234#40 .read false
    ∧ requestOf ⟨2#3, 15#4, 1#1, 1#1, 40#6, 0x1234#40⟩ = .release 15 40
    ∧ requestOf ⟨3#3, 2#4, 1#1, 0#1, 7#6, 5#40⟩ = .slotReset 2
    ∧ requestOf ⟨6#3, 2#4, 1#1, 0#1, 7#6, 5#40⟩ = .malformedRequest 6#3 := by decide
theorem test_powerOn : (run (.powerOn ⟨true, 3#2, []⟩) small).mgmt.mode = .spi := by decide +kernel
theorem test_resetAssert : (run .resetAssert (locked [.revoke 641] [] 0 noTally)).batch.result = .abandoned 20 1 := by
  decide +kernel
theorem test_resetRelease : (run .resetRelease { State.reset with resetLow := true }) = State.reset := by decide +kernel
theorem test_batchOpen : (command .batchOpen [20, 32] small).batch = ⟨.loading 20 32 [], none, .none⟩ := by decide +kernel
theorem test_batchOpen_count : (command .batchOpen [20, 33] small).batch = ⟨.idle, some .count, .none⟩ := by decide +kernel
theorem test_batchLoad :
    (command .batchLoad [1, 0, 0x80, 2, 0, 0x14, 0, 1, 2] (staged (.loading 20 1 []) small)).batch.staging =
      .loaded 20 1 [.install 640 ⟨0x1400#24, .readWrite, .snooped, 2#8⟩ false] := by decide +kernel
theorem test_batchLoad_outside : (command .batchLoad [3, 0, 0, 0] (staged (.loading 20 1 []) small)).batch =
    ⟨.idle, some .outside, .none⟩ := by decide +kernel
theorem test_batchCommit : (command .batchCommit [] (staged (.loaded 20 1 [.revoke 641]) small)).store.lockMark = some 20 := by
  decide +kernel
theorem test_batchCommit_demotes :
    (command .batchCommit [] (staged (.loaded 20 1 [.revoke 641]) (stored false))).queue[(7 : SlotIx)] =
      .waiting (request 2 641 .read false) 641 := by decide +kernel
theorem test_batchDiscard : (command .batchDiscard [] (staged (.loaded 20 1 [.revoke 641]) small)).batch.staging = .idle := by
  decide +kernel
theorem test_freezeGroup : (command .freezeGroup [127] small).freeze.marks = 1#128 <<< 127 := by decide +kernel
theorem test_thawGroup :
    (command .thawGroup [127] { small with freeze := ⟨BitVec.allOnes 128, some ⟨3, 5⟩, true⟩ }).freeze.marks =
      (BitVec.allOnes 127).setWidth 128 := by decide +kernel
theorem test_freezeAll : (command .freezeAll [] small).freeze.marks = BitVec.allOnes 128 := by decide +kernel
theorem test_freezeRange : (command .freezeRange [3, 5] small).freeze = ⟨0b111000#128, some ⟨3, 5⟩, true⟩ := by
  decide +kernel
theorem test_domainSweep : (command .domainSweep [2] small).closingSet = 0b100#8 := by decide +kernel
theorem test_scrub : (command .scrub [] small).sweep = ⟨some ⟨.running, .scrub, 0⟩, some ⟨.inProgress, .scrub, 0, 0⟩⟩ := by
  decide +kernel
theorem test_sweepSuspend : (command .sweepSuspend [] (walking .waitingDrain (.domainSweep 2) 300 small)).sweep.walk =
    some ⟨.suspended, .domainSweep 2, 300⟩ := by decide +kernel
theorem test_sweepResume : (command .sweepResume [] (walking .suspended (.domainSweep 2) 300 small)).sweep.walk =
    some ⟨.running, .domainSweep 2, 300⟩ := by decide +kernel
theorem test_sweepCancel : (command .sweepCancel [] (walking .running .scrub 300 small)).sweep =
    ⟨none, some ⟨.cancelled, .scrub, 0, 300⟩⟩ := by decide +kernel
theorem test_forceDrain : (command .forceDrain [0x86, 2] small).claims[(10 : Tag)] = .orphaned ⟨2, 646, 4#16, .read⟩ := by
  decide +kernel
theorem test_domainSet : (command .domainSet [7, 0] small).passSet = 0x80#8 := by decide +kernel
theorem test_requesterSet : (command .requesterSet [15, 2, 7, 64] small).requester 15 =
    ⟨.quarantined, 7, 64, 0, some 100000000, none⟩ := by decide +kernel
theorem test_requesterReset : ((command .requesterReset [2] small).requester 2).clearing = some .toDefaults := by
  decide +kernel
theorem test_clearErrors : (command .clearErrors [] (run (.malformedRequest 0#3) small)).errors.first = none := by
  decide +kernel
theorem test_tableReset : (command .tableReset [] (stored true)).claims[(5 : Tag)] = .free := by decide +kernel
theorem test_tableReset_orphans : (command .tableReset [] small).claims[(10 : Tag)] = .orphaned ⟨2, 646, 4#16, .read⟩ := by
  decide +kernel
theorem test_fullReset : (command .fullReset [] small).loader = ImageLoader.reset := by decide +kernel
theorem test_readEntry : (command .readEntry [0x81, 2] small).mgmt.results.toList.take 10 =
    [1#8, 0x01#8, 0x20#8, 0#8, 1#8, 2#8, 0#8, 3#8, 0#8, 1#8] := by decide +kernel
theorem test_readClaim : (command .readClaim [10] small).mgmt.results.toList.take 9 =
    [1#8, 2#8, 0x86#8, 2#8, 4#8, 0#8, 0#8, 0#8, 1#8] := by decide +kernel
theorem test_readPending : (command .readPending [7] (stored true)).mgmt.results.toList.take 10 =
    [2#8, 2#8, 0#8, 0x10#8, 0x28#8, 0#8, 0#8, 2#8, 0x81#8, 2#8] := by decide +kernel
theorem test_readDrain : (command .readDrain [0] small).mgmt.results.toList.take 7 =
    [1#8, 0x86#8, 2#8, 0#8, 1#8, 0#8, 0#8] := by decide +kernel
theorem test_readRequester : (command .readRequester [2] small).mgmt.results.toList.take 4 = [1#8, 1#8, 4#8, 0#8] := by
  decide +kernel
theorem test_readSweepResult : (command .readSweepResult [] (walking .running (.domainSweep 2) 300 small)).mgmt.results.toList.take 3
    = [1#8, 0#8, 2#8] := by decide +kernel
theorem test_readCommitResult : (command .readCommitResult [] (locked [.revoke 641] [] 0 noTally)).mgmt.results.toList.take 3 =
    [1#8, 20#8, 1#8] := by decide +kernel
theorem test_undefinedCommandCode :
    ((command (.undefinedCommandCode 0x05#8) [] (staged (.loading 20 1 []) small)).mgmt.reason,
      (command (.undefinedCommandCode 0x05#8) [] (staged (.loading 20 1 []) small)).batch.staging) =
    (some .badOperand, .loading 20 1 []) := by decide +kernel
theorem test_eventRegisterRead :
    (run (.eventRegisterRead (.i2c 0x2C#7 true)) (readingAt 0x39 { small with errors := { small.errors with events := 5#5 } })).errors.events
      = 0#5 := by decide +kernel
theorem test_alertAssertedClear :
    (run (.alertAssertedClear 1#8) (writingAt 0x38 { small with errors := ⟨none, 0#9, 0#5, true, true⟩ })).errors.alertAsserted
      = false := by decide +kernel
theorem test_overrideClear : (run (.overrideClear 2#8) (writingAt 0x38 small)).errors.override = false := by decide +kernel
theorem test_overrideSet : (run (.overrideSet 6#8) (writingAt 0x38 small)).errors.override = true := by decide +kernel
theorem test_singleByteSettingWrite : (run (.singleByteSettingWrite 4#8) (writingAt 0x48 small)).settings.drainTime =
    .unlimited := by decide +kernel
theorem test_settingLowerByteWrite : (run (.settingLowerByteWrite 0xA5#8) (writingAt 0x4C small)).settings.shadowInt =
    0xA5#8 := by decide +kernel
theorem test_settingHigherByteWrite : (run (.settingHigherByteWrite 1#8) (writingAt 0x4D small)).settings.routeInt =
    0x100#9 := by decide +kernel
theorem test_multiByteCaptureRead :
    (run (.multiByteCaptureRead (.i2c 0x2C#7 true)) (readingAt 0x41 { small with store := { small.store with base := 0x1234#40 } })).mgmt.captures.base
      = some 0x1234#40 := by decide +kernel
/-- After the master's not-acknowledge nothing more is sent until a stop or a start condition. -/
theorem test_notAcknowledged :
    let s := run (.multiByteCaptureRead (.i2c 0x2C#7 false)) (readingAt 0x00 small)
    s.mgmt.sent = some 0x60#8 ∧ s.mgmt.pointer = 1#7 ∧ run (.multiByteCaptureRead (.i2c 0x2C#7 true)) s = s
    ∧ run (.pointerSet (.i2c 0x2C#7) 0#8) s = s
    ∧ (run (.multiByteCaptureRead (.i2c 0x2C#7 true)) (run (.transactionEnd .i2c) s)).mgmt.sent = some 0x41#8 := by decide +kernel
theorem test_pointerSet : (run (.pointerSet (.i2c 0x2C#7) 0xDC#8) small).mgmt.pointer = 0x5C#7 := by decide +kernel
theorem test_registerWrite : (run (.registerWrite (.i2c 0x2C#7) 0x77#8) (writingAt 0x5B small)).mgmt.operands[(11 : Fin 12)] =
    0x77#8 := by decide +kernel
theorem test_storageDamage : (run (.storageDamage 3 ⟨live 2, 1, 8#16, true⟩) small).entry 3 = ⟨live 2, 1, 8#16, true⟩ := by
  decide +kernel
theorem test_transactionEnd : (run (.transactionEnd .i2c) (writingAt 0x10 small)).mgmt.transaction = .none := by decide +kernel

/-! ### Witnesses: states and operands that meet the statements' hypotheses, clause by clause -/

theorem witness_StepRunsFrontCommand : ({ small with pending := [.rspTaken, .scrubStep] } : State).pending = .rspTaken :: [.scrubStep] := rfl

theorem witness_StepOnEmptyQueue :
    State.reset.pending = [] ∧ State.reset.dueExpiries = []
    ∧ ({ small with now := 1000 } : State).dueExpiries = [.drainExpiry 0] := by decide +kernel

/-- Two deadlines due at one time; a part whose load waits for RESET, and one that is RUNNING. -/
theorem witness_StepOnEmptyQueue_several :
    let s : State := { small with now := 1000 }
    (s.putRequester 3 ⟨.quarantined, 0, 0, 0, some 1000, none⟩).dueExpiries = [.quarantineDeadlineExpiry 3, .drainExpiry 0]
    ∧ small.pending = [] ∧ small.loader.phase = .running ∧ ({ State.reset with resetLow := true } : State).resetLow = true := by
  decide +kernel

theorem witness_ResolveGranted :
    (ReachesEntry (request 2 4095 .write false) 4095 small ∧ small.readFails 4095 = false
      ∧ (small.entry 4095).contents = live 2 ∧ inSet (small.requester 2).domain 2#8 = true)
    ∧ (ReachesEntry (request 2 4095 .write true) 4095 crowded ∧ crowded.readFails 4095 = false
      ∧ crowded.holding 2 < (crowded.requester 2).limit.val ∧ crowded.claims[(63 : Tag)] = .free
      ∧ (∀ u : Tag, u < 63 → crowded.claims[u] ≠ .free) ∧ (64 : Fin 65).val = (crowded.entry 4095).claimCount.val + 1) := by
  decide +kernel

theorem witness_ResolveBeforeTheTable :
    PortOpen small ∧ ((small.acceptClearing 2 .toDefaults).requester 2).clearing ≠ none
    ∧ ((small.requester 3).clearing = none ∧ (small.requester 3).standing = .disabled)
    ∧ ((small.putRequester 2 ⟨.quarantined, 1, 4, 0, some 9, none⟩).requester 2).standing = .quarantined
    ∧ Admitted 2 small ∧ InWindow (page 4095 0xFFF) small ∧ ¬ InWindow (page 4096) small := by decide +kernel

theorem witness_ResolveDenied :
    (ReachesEntry (request 2 644 .read false) 644 small ∧ small.readFails 644 = false ∧ (small.entry 644).contents = live 4
      ∧ inSet (small.requester 2).domain 4#8 = false)
    ∧ (ReachesEntry (request 2 643 .write false) 643 small ∧ small.readFails 643 = false
      ∧ (small.entry 643).contents = liveReadOnly 2 ∧ inSet (small.requester 2).domain 2#8 = true)
    ∧ (let s := small |> enabled 2 1 1
      ReachesEntry (request 2 641 .write true) 641 s ∧ s.readFails 641 = false ∧ s.holding 2 = (s.requester 2).limit.val)
    ∧ (let s : State := { small with claims := Vector.replicate 64 (.orphaned ⟨9, 0, 0#16, .read⟩) }
      ReachesEntry (request 2 641 .write true) 641 s ∧ s.readFails 641 = false
        ∧ ¬ (s.holding 2 ≥ (s.requester 2).limit.val) ∧ ∀ t : Tag, s.claims[t] ≠ .free) := by decide +kernel

theorem witness_ResolveReadsEntry :
    (ReachesEntry (request 2 647 .read false) 647 damaged ∧ damaged.readFails 647 = true)
    ∧ (ReachesEntry (request 2 645 .read false) 645 small ∧ (small.entry 645).contents = .poisoned)
    ∧ (ReachesEntry (request 2 646 .read false) 646 small ∧ small.readFails 646 = false ∧ (small.entry 646).contents = revoking 2)
    ∧ (ReachesEntry (request 2 640 .read false) 640 small ∧ small.readFails 640 = false ∧ (small.entry 640).contents = .vacant
      ∧ (small.domainRecord (small.requester 2).domain).pass = false
      ∧ ((small.putDomain 1 ⟨true, false⟩).domainRecord 1).pass = true) := by decide +kernel

theorem witness_ResolveStoredAnswer :
    let s := stored true
    PortOpen s ∧ Admitted 2 s ∧ InWindow (page 641) s
      ∧ s.queue[(7 : SlotIx)] = .ready (request 2 641 .read true) 641 (granted (some 5)) 500
      ∧ (∀ j : SlotIx, j < 7 → isReady s.queue[j] = true → slotRequest s.queue[j] ≠ some (request 2 641 .read true))
      ∧ faultOf (granted (some 5)).verdict = none ∧ faultOf (.denied .access) = some .access := by decide +kernel

theorem witness_ResolveLockedGroup :
    let s := locked [.revoke 641] [] 0 noTally
    let waits : State := { s with queue := PendingQueue.reset.set (7 : SlotIx) (.waiting (request 2 641 .read false) 641) }
    let full : State := { s with queue := Vector.replicate 8 (.ready (request 3 0 .read false) 0 (granted none) 5) }
    PortOpen s ∧ Admitted 2 s ∧ InWindow (page 641) s ∧ Governs 641 (page 641) s
      ∧ NoStoredAnswer (request 2 641 .read false) s ∧ s.store.lockMark = some (groupOf 641)
      ∧ NoStoredAnswer (request 2 641 .read false) waits ∧ isWaiting waits.queue[(7 : SlotIx)] = true
      ∧ slotRequest waits.queue[(7 : SlotIx)] = some (request 2 641 .read false)
      ∧ s.queue[(0 : SlotIx)] = .empty ∧ NoStoredAnswer (request 2 641 .read false) full
      ∧ (∀ k : SlotIx, full.queue[k] ≠ .empty) ∧ (∀ k : SlotIx, isWaiting full.queue[k] = false) := by decide +kernel

theorem witness_FreeingAClaim :
    small.claims[(63 : Tag)] = .free ∧ crowded.claims[(0 : Tag)] = .orphaned ⟨9, 0, 0#16, .read⟩
    ∧ ((stored true).claims[(5 : Tag)] = .active ⟨2, 641, 3#16, .read⟩ ∧ (0 : Fin 65).val + 1 = ((stored true).entry 641).claimCount.val
      ∧ ¬ (isRevoking ((stored true).entry 641).contents = true ∧ (0 : Fin 65) = 0))
    ∧ (small.claims[(10 : Tag)] = .active ⟨2, 646, 4#16, .read⟩ ∧ (small.entry 646).claimCount = 1
      ∧ isRevoking (small.entry 646).contents = true) := by decide +kernel

theorem witness_ReleaseOfActive :
    (PortOpen small ∧ small.claims[(10 : Tag)] = .active ⟨2, 646, 4#16, .read⟩ ∧ ∀ k : SlotIx, slotTag small.queue[k] ≠ some 10)
    ∧ (PortOpen (stored true) ∧ (stored true).claims[(5 : Tag)] = .active ⟨2, 641, 3#16, .read⟩
      ∧ slotTag (stored true).queue[(7 : SlotIx)] = some 5 ∧ ∀ j : SlotIx, j < 7 → slotTag (stored true).queue[j] ≠ some 5) := by
  decide +kernel

theorem witness_ReleaseOfOthers :
    PortOpen crowded ∧ crowded.claims[(0 : Tag)] = .orphaned ⟨9, 0, 0#16, .read⟩ ∧ crowded.claims[(63 : Tag)] = .free
    ∧ PortOpen small ∧ claimOf small.claims[(10 : Tag)] = some ⟨2, 646, 4#16, .read⟩ ∧ (2 : ReqId) ≠ 3 := by decide +kernel

theorem witness_SlotResetAndClearing :
    PortOpen small ∧ (small.requester 2).clearing = none ∧ PortOpen (small.acceptClearing 2 (.toDisabled 0 0))
    ∧ ((small.acceptClearing 2 (.toDisabled 0 0)).requester 2).clearing ≠ none
    ∧ (slotRequest ((stored true).acceptClearing 3 .toDefaults).queue[(7 : SlotIx)]).isSome = true
    ∧ (Canonical (stored true) ∧ (slotRequest (stored true).queue[(7 : SlotIx)]).map (·.requester) = some 2
      ∧ slotTag (stored true).queue[(7 : SlotIx)] = some 5 ∧ activeOn 641 (stored true).claims[(5 : Tag)] = true
      ∧ (∀ t : Tag, t ∈ ([5] : List Tag) ↔ (∃ k : SlotIx, (slotRequest (stored true).queue[k]).map (·.requester) = some 2
          ∧ slotTag (stored true).queue[k] = some t) ∧ activeOn 641 (stored true).claims[t] = true)
      ∧ ([5] : List Tag).length ≤ ((stored true).entry 641).claimCount.val) := by decide +kernel

theorem witness_PortHandshake :
    State.reset.port = .ready ∧ State.reset.loader.phase ≠ .running ∧ (0#3 ≠ 1#3 ∧ 0#3 ≠ 2#3 ∧ 0#3 ≠ 3#3)
    ∧ ({ small with port := .answered (granted none) } : State).port ≠ .ready
    ∧ (granted (some 63)).place = some (.snooped, page 0x2001) ∧ (granted (some 63)).generation = some 3#16
    ∧ (granted (some 63)).tag = some 63 ∧ (granted (some 63)).entry = some 641 ∧ bare .acked = ⟨.acked, none, none, none, none⟩
    ∧ (0#1 ≠ 1#1) := by decide +kernel

theorem witness_FaultCounting :
    let q (n : Fin 16) : State := small.putRequester 2 ⟨.enabled, 1, 4, n, none, none⟩
    let masked : State := { small with settings := { small.settings with masks := 0x40#7 } }
    let off : State := { q 15 with settings := { small.settings with threshold := 0#4 } }
    (small.requester 3).standing = .disabled ∧ masked.settings.masks.getLsbD (faultCode .discard - 1) = true
    ∧ ((q 6).requester 2).standing = .enabled ∧ ((q 6).requester 2).clearing = none
    ∧ min 15 (((q 6).requester 2).faults.val + 1) < (q 6).settings.threshold.toNat
    ∧ (q 7).settings.threshold.toNat ≤ min 15 (((q 7).requester 2).faults.val + 1)
    ∧ off.settings.threshold = 0#4 ∧ (15 : Fin 16).val = min 15 ((off.requester 2).faults.val + 1) := by decide +kernel

theorem witness_ClearingWorkAndCompletion :
    let s := small.acceptClearing 2 .toDefaults
    (s.requester 2).clearing = some .toDefaults ∧ namesRequester 2 s.claims[(10 : Tag)] = true
    ∧ (∀ u : Tag, u < 10 → namesRequester 2 s.claims[u] = false)
    ∧ ∀ t : Tag, namesRequester 2 (s.freeClaim 10).claims[t] = false := by decide +kernel

theorem witness_QuarantineEnds :
    ((running.putRequester 3 ⟨.quarantined, 1, 4, 2, some 0, none⟩).requester 3).deadline = some 0 := by decide +kernel

theorem witness_SlotDiscarded :
    (stored false).queue[(7 : SlotIx)] = .ready (request 2 641 .read false) 641 (granted none) 500
    ∧ (stored true).queue[(7 : SlotIx)] = .ready (request 2 641 .read true) 641 (granted (some 5)) 500 := by decide +kernel

theorem witness_DrainsEnd :
    let s : State := { small with drain := fullDrains, now := 1000 }
    Canonical small ∧ (slotTag (stored true).queue[(7 : SlotIx)] = some 5 ∧ namesEntry 641 (stored true).claims[(5 : Tag)] = true)
    ∧ (small.claims[(10 : Tag)] = .active ⟨2, 646, 4#16, .read⟩ ∧ ∀ k : SlotIx, slotTag small.queue[k] ≠ some 10)
    ∧ (crowded.claims[(0 : Tag)] = .orphaned ⟨9, 0, 0#16, .read⟩ ∧ ∀ k : SlotIx, slotTag crowded.queue[k] ≠ some 0)
    ∧ namesEntry 646 (stored true).claims[(5 : Tag)] = false
    ∧ namesEntry 646 small.claims[(9 : Tag)] = false ∧ slotTag (stored true).queue[(0 : SlotIx)] = none
    ∧ s.drain[(15 : Fin 16).val]? = some ⟨4095, some 1000⟩ := by decide +kernel

theorem witness_ParityCheckedRead :
    damaged.readFails 647 = true ∧ damaged.readFails 641 = false
    ∧ ({ small with drain := [] } : State).readFails 646 = true ∧ (small.addDrain 641).readFails 641 = true
    ∧ (small |> put 4095 (live 0) 0 0).readFails 4095 = true := by decide +kernel

theorem witness_ErrorsAndLines :
    let st : Settings := { Settings.reset with routeAlert := 0x100#9 }
    ErrorUnit.reset.first = none ∧ (⟨some (.quarantine 3), 0#9, 0#5, false, false⟩ : ErrorUnit).first ≠ none
    ∧ st.routeAlert.getLsbD (errorCode (.image .header none) - 1) = true
    ∧ ¬ (st.routeAlert.getLsbD (errorCode (.quarantine 0) - 1) = true) ∧ ErrorUnit.reset.override = true
    ∧ (recordError st (.image .header none) { ErrorUnit.reset with override := false }).alertAsserted = true := by decide +kernel

theorem witness_OpJudging :
    let s := (damaged |> put 642 .poisoned 1 0).putDomain 2 ⟨false, true⟩
    let full : State := { s with drain := fullDrains }
    (s.entry 641).contents = live 2 ∧ (s.entry 646).contents = revoking 2
    ∧ ((s.entry 642).contents = .poisoned ∧ (s.entry 642).claimCount ≠ 0)
    ∧ ((s.entry 645).contents = .poisoned ∧ (s.entry 645).claimCount = 0) ∧ (s.entry 640).contents = .vacant
    ∧ (inSet 2 4#8 = true ∧ (s.domainRecord 2).closing = true) ∧ (s.domainRecord 1).closing = false
    ∧ ((s.entry 4095).contents = live 2 ∧ (s.entry 4095).claimCount ≠ 0)
    ∧ (Access.readOnly ≠ .readWrite) ∧ 6#8 &&& ~~~2#8 = 4#8 ∧ 3#8 &&& ~~~2#8 = 1#8
    ∧ 16 - full.drain.length < 0 + 1 ∧ ¬ (16 - s.drain.length < 14 + 1) ∧ 16 - s.drain.length < 15 + 1 := by decide +kernel

theorem witness_CommitValidates :
    let ops : List BatchOp := [.revoke 641, .install 640 ⟨0#24, .readOnly, .snooped, 2#8⟩ false]
    let s := locked ops [⟨live 2, 0⟩] 0 noTally
    let u := s.readEntry .commit 640
    ops[([⟨live 2, 0⟩] : List ValidatedCopy).length]? = some (.install 640 ⟨0#24, .readOnly, .snooped, 2#8⟩ false)
    ∧ u.judge 0 (.install 640 ⟨0#24, .readOnly, .snooped, 2#8⟩ false) = none
    ∧ (locked [.revoke 640] [] 0 noTally).judge 0 (.revoke 640) = some .notLive := by decide +kernel

theorem witness_CommitApplies :
    let ops : List BatchOp := [.install 640 ⟨0#24, .readOnly, .snooped, 2#8⟩ false, .amend 641 none (some .direct) none false,
      .amend 645 none (some .direct) none false, .revoke 643, .revoke 4095]
    let copies : List ValidatedCopy := [⟨.vacant, 0⟩, ⟨live 2, 0⟩, ⟨live 2, 0⟩, ⟨liveReadOnly 2, 0⟩, ⟨live 2, 63⟩]
    let s := locked ops copies 4 ⟨1, 1, 1, 0, 1⟩
    copies.length = ops.length ∧ ops[4]? = some (.revoke 4095) ∧ copies[4]? = some ⟨live 2, 63⟩
    ∧ (s.entry 645).contents = .poisoned ∧ (s.entry 643).claimCount = 0 ∧ (s.entry 4095).claimCount ≠ 0
    ∧ (s.entry 4095).contents ≠ .poisoned ∧ s.drain.length < 16
    ∧ ((put 644 .poisoned 1 0 s).entry 644).contents = .poisoned ∧ ((put 644 .poisoned 1 0 s).entry 644).claimCount ≠ 0 := by
  decide +kernel

theorem witness_CommitCompletes :
    let s := locked [.revoke 641] [⟨live 2, 0⟩] 1 ⟨0, 0, 1, 0, 0⟩
    let w : State := { s with queue := PendingQueue.reset.set (0 : SlotIx) (.waiting (request 2 641 .read true) 641) }
    let full : State := { w with claims := Vector.replicate 64 (.orphaned ⟨9, 0, 0#16, .read⟩) }
    s.batch.staging = .committing 20 1 [.revoke 641] [⟨live 2, 0⟩] 1 ⟨0, 0, 1, 0, 0⟩
    ∧ w.queue[(0 : SlotIx)] = .waiting (request 2 641 .read true) 641 ∧ isWaiting w.queue[(7 : SlotIx)] = false
    ∧ (w.evaluate (request 2 641 .read true) 641).2.verdict = .granted
    ∧ (full.evaluate (request 2 641 .read true) 641).2.verdict = .retry .claimFull := by decide +kernel

/-- The evaluation's cases: step 2, the read, the entry's state, steps 7 to 9. -/
theorem witness_CommitCompletes_evaluation :
    let passing := small.putDomain 1 ⟨true, false⟩
    let none' : State := { small with claims := Vector.replicate 64 (.orphaned ⟨9, 0, 0#16, .read⟩) }
    ((small.acceptClearing 2 .toDefaults).requester 2).clearing ≠ none
    ∧ ((small.requester 3).clearing = none ∧ (small.requester 3).standing = .disabled)
    ∧ ((small.putRequester 2 ⟨.quarantined, 1, 4, 0, some 9, none⟩).requester 2).standing = .quarantined
    ∧ Admitted 2 small ∧ damaged.readFails 647 = true ∧ (small.entry 645).contents = .poisoned
    ∧ (small.readFails 646 = false ∧ (small.entry 646).contents = revoking 2)
    ∧ (small.readFails 640 = false ∧ (small.entry 640).contents = .vacant)
    ∧ ((passing.domainRecord (passing.requester 2).domain).pass = true
      ∧ (small.domainRecord (small.requester 2).domain).pass = false)
    ∧ (small.readFails 644 = false ∧ (small.entry 644).contents = live 4 ∧ inSet (small.requester 2).domain 4#8 = false)
    ∧ (small.readFails 643 = false ∧ (small.entry 643).contents = liveReadOnly 2 ∧ inSet (small.requester 2).domain 2#8 = true)
    ∧ ((small |> enabled 2 1 1).requester 2).limit.val ≤ (small |> enabled 2 1 1).holding 2
    ∧ (¬ (none'.requester 2).limit.val ≤ none'.holding 2 ∧ ∀ t : Tag, none'.claims[t] ≠ .free)
    ∧ (¬ (crowded.requester 2).limit.val ≤ crowded.holding 2 ∧ crowded.claims[(63 : Tag)] = .free
      ∧ (∀ u : Tag, u < 63 → crowded.claims[u] ≠ .free) ∧ (64 : Fin 65).val = (crowded.entry 4095).claimCount.val + 1) := by
  decide +kernel

theorem witness_WalkBookkeeping :
    ((⟨.running, .scrub, 4095⟩ : Walk).kind = .scrub ∧ (⟨.running, .domainSweep 7, 0⟩ : Walk).kind = .domainSweep 7)
    ∧ (4096 ≤ 4095 + 1 ∧ (4095 : EntryIx).val = 4095)
    ∧ ((stored false).queue[(7 : SlotIx)] = .ready (request 2 641 .read false) 641 (granted none) 500
      ∧ (granted none).tag = none ∧ (granted (some 5)).tag ≠ none) := by decide +kernel

theorem witness_SweepTakesEntry :
    let read (s : State) (i : EntryIx) : GrantEntry := (s.readEntry .sweep i).entry i
    (read small 645).contents = .poisoned ∧ (read small 640).contents = .vacant
    ∧ ((read small 641).contents = live 2 ∧ inSet 2 2#8 = false)
    ∧ ((read (small |> put 640 (live 6) 0 0) 640).contents = live 6 ∧ inSet 1 6#8 = true ∧ 6#8 &&& ~~~(1#8 <<< 1) ≠ 0#8)
    ∧ (inSet 1 2#8 = true ∧ 2#8 &&& ~~~(1#8 <<< 1) = 0#8 ∧ (read small 641).claimCount = 0)
    ∧ ((read small 4095).contents = live 2 ∧ (read small 4095).claimCount ≠ 0 ∧ (small.readEntry .sweep 4095).drain.length < 16)
    ∧ (let s : State := { small with drain := fullDrains.set 15 ⟨1, none⟩ }
      (read s 4095).contents = live 2 ∧ 16 ≤ (s.readEntry .sweep 4095).drain.length)
    ∧ ((read small 646).contents = revoking 2) := by decide +kernel

theorem witness_WalkSteps :
    let s := walking .running (.domainSweep 1) 640 { small with freeze := ⟨1#128 <<< 20, none, false⟩ }
    let c := walking (.suspending true) .scrub 645 small
    Walking ⟨.running, .domainSweep 1, 640⟩ s ∧ (640 : EntryIx).val % 32 = 0 ∧ s.freeze.marks.getLsbD (640 / 32) = true
    ∧ Walking ⟨.suspending true, .scrub, 645⟩ c ∧ ((c.readEntry .scrub 645).entry 645).contents = .poisoned
    ∧ ((c.readEntry .scrub 641).entry 641).contents ≠ .poisoned ∧ (641 : EntryIx).val % 32 ≠ 0 := by decide +kernel

theorem witness_WaitingSweepRetakes :
    let s := walking .waitingDrain (.domainSweep 1) 4095 small
    let t : State := { s with drain := [] }
    Walking ⟨.waitingDrain, .domainSweep 1, 4095⟩ t ∧ t.drain.length < s.drain.length ∧ s.drain.length < 16
    ∧ ((s.entry 4095).claimCount ≠ 0 ∧ ((put 4095 (live 2) 0 0 s).entry 4095).claimCount = 0)
    ∧ ((s.entry 4095).contents ≠ .poisoned ∧ ((s.poison .scrub 4095).entry 4095).contents = .poisoned)
    ∧ Walking ⟨.running, .domainSweep 1, 4095⟩ (walking .running (.domainSweep 1) 4095 small) := by decide +kernel

theorem witness_ImageLoadEnds :
    State.reset.loader.phase = .loading ∧ State.reset.resetLow = false ∧ State.reset.loader.work = .check
    ∧ imageFails State.reset.nvm = true ∧ imageFails loading.nvm = false ∧ loading.loader.work = .check
    ∧ loading.loader.phase = .loading ∧ loading.resetLow = false := by decide +kernel

/-- A load at each of its pieces, and the order in which they come. -/
theorem witness_ImageLoadEnds_pieces :
    let s : State := loadingFrom (sections 6 14 17 0xFFFF)
    let at' (n : Nat) : LoadWork := ((List.range n).foldl (fun u _ => u.loadPiece) s).loader.work
    at' 0 = .check ∧ at' 1 = .control ∧ at' 2 = .requester ∧ at' 3 = .preloadStart
    ∧ at' 4 = .preload [0x0FFF#16, 0#16, 0x0102#16] [] 0 ∧ at' 5 = .preload [] [4095] 0
    ∧ at' 6 = .freeze ∧ at' 7 = .finish ∧ s.loader.phase = .loading ∧ s.resetLow = false := by decide +kernel

/-- A section is misplaced by its offset, by its length word's place, by its content's; else it is placed. -/
theorem witness_ImageLoadEnds_sections :
    sectionAt (sections 0xFFFF 6 6 6) 2 = .absent ∧ sectionAt (sections 5 6 6 6) 2 = .misplaced
    ∧ sectionAt (sections 23 6 6 6) 2 = .misplaced ∧ sectionAt (sections 22 6 6 6) 2 = .misplaced
    ∧ sectionAt (sections 21 6 6 6) 2 = .placed 21 1 := by decide +kernel

theorem witness_ImageSections :
    (4095 : EntryIx).val = ((0x0FFF#16).setWidth 12).toNat ∧ (0x0FFF#16).getLsbD 13 = false ∧ (0x0FFF#16).getLsbD 12 = false
    ∧ (0x0102#16).setWidth 8 ≠ 0#8 ∧ (0x2FFF#16).getLsbD 13 = true ∧ (0x0100#16).setWidth 8 = 0#8
    ∧ (takePreload 0x0FFF#16 0#16 0x0102#16 ⟨small, [], 0⟩).skipped = 0
    ∧ (takePreload 0x0FFF#16 0#16 0x0102#16 ⟨small, [4095], 0⟩).skipped = 1 := by decide +kernel

/-- Values at the edges of the ranges; a record that is taken and ones that are not. -/
theorem witness_ImageSections_values :
    discardTimeOfCode 3 = some .us1024 ∧ drainTimeOfCode 4 = some .unlimited ∧ quarantineTimeOfCode 3 = some .ms1000
    ∧ snoopOfCode 1 = some .direct ∧ 0x1A ∉ [0x0001, 0x0002, 0x0003, 0x0004, 0x0010, 0x0011, 0x0012, 0x0013, 0x0014, 0x0015,
      0x0016, 0x0017, 0x0018, 0x0019]
    ∧ (takeRequester 0x0F01#16 0x0740#16 .start).skipped = 0 ∧ (takeRequester 0x1001#16 0x0740#16 .start).skipped = 1
    ∧ (takeRequester 0x0F02#16 0x0740#16 .start).skipped = 1 ∧ (takeRequester 0x0F01#16 0x0840#16 .start).skipped = 1
    ∧ (takeRequester 0x0F01#16 0x0741#16 .start).skipped = 1 := by decide +kernel

/-- Each section absent, misplaced and placed; a Freeze section of the right length, its groups in order or not. -/
theorem witness_ImageSections_places :
    let s (c r p f : Nat) : State := loadingFrom (sections c r p f)
    let h : State := { loading with loader := { loading.loader with work := .preload [300#16, 0#16] [] 0 } }
    let f : List Byte := bytesOf [0x7C4E#16, 10#16, 0xFFFF#16, 0xFFFF#16, 0xFFFF#16, 6#16, 2#16, 0#16, 127#16, 0#16]
    (sectionAt (s 0xFFFF 14 17 21).nvm 2 = .absent ∧ sectionAt (s 5 14 17 21).nvm 2 = .misplaced
      ∧ sectionAt (s 6 14 17 21).nvm 2 = .placed 6 7)
    ∧ (sectionAt (s 6 0xFFFF 17 21).nvm 3 = .absent ∧ sectionAt (s 6 5 17 21).nvm 3 = .misplaced
      ∧ sectionAt (s 6 14 17 21).nvm 3 = .placed 14 2)
    ∧ (sectionAt (s 6 14 0xFFFF 21).nvm 4 = .absent ∧ sectionAt (s 6 14 5 21).nvm 4 = .misplaced
      ∧ sectionAt (s 6 14 17 21).nvm 4 = .placed 17 3)
    ∧ (sectionAt (s 6 14 17 0xFFFF).nvm 5 = .absent ∧ sectionAt (s 6 14 17 5).nvm 5 = .misplaced
      ∧ sectionAt (s 6 14 17 21).nvm 5 = .placed 21 1)
    ∧ (h.loader.phase = .loading ∧ (preloadRecords [300#16, 0#16] ⟨h, [], 0⟩).skipped = 1
      ∧ (preloadRecords [] ⟨h, [], 0⟩).skipped = 0)
    ∧ (sectionAt f 5 = .placed 6 2 ∧ (0 : Group).val = (nvmWord f 7).toNat ∧ (127 : Group).val = (nvmWord f 8).toNat) := by
  decide +kernel

theorem witness_PreloadReloadEnds :
    let s := command .tableReset [] (run .imageLoadDone loading)
    s.loader.phase = .reloading ∧ s.loader.work = .preload [300#16, 0#16, 0x0102#16] [] 0
    ∧ (preloadRecords [300#16, 0#16, 0x0102#16] ⟨s, [], 0⟩).skipped = 0
    ∧ (preloadRecords [300#16, 0#16] ⟨s, [], 0⟩).skipped = 1 := by decide +kernel

theorem witness_FullResets :
    let s := commanded [] (locked [.revoke 641] [] 0 noTally)
    s.batch.staging = .committing 20 1 [.revoke 641] [] 0 noTally ∧ s.resetLow = false ∧ s.writesAt 0x5C#7 = true
    ∧ committing small.batch.staging = false ∧ (commanded [] small).writesAt 0x5C#7 = true := by decide +kernel

theorem witness_TableResetAccepted :
    let s := commanded [] (walking .running (.domainSweep 2) 0 (stored true))
    let c := commanded [] (locked [.revoke 641] [] 0 noTally)
    (Commanded s ∧ NoOpenBatch s ∧ slotTag s.queue[(7 : SlotIx)] = some 5 ∧ committing s.batch.staging = false
      ∧ s.claims[(10 : Tag)] = .active ⟨2, 646, 4#16, .read⟩ ∧ (∀ k : SlotIx, slotTag s.queue[k] ≠ some 10)
      ∧ s.claims[(63 : Tag)] = .free ∧ s.sweep.walk = some ⟨.running, .domainSweep 2, 0⟩)
    ∧ (Commanded c ∧ NoOpenBatch c ∧ c.batch.staging = .committing 20 1 [.revoke 641] [] 0 noTally ∧ c.sweep.walk = none)
    ∧ (⟨.running, .domainSweep 2, 0⟩ : Walk).kind ≠ .domainSweep 1 ∧ s.loader.capture = none
    ∧ (run .imageLoadDone loading).loader.capture = some ⟨6, 3⟩ := by
  decide +kernel

theorem witness_CommandGate :
    let s := commanded [] (staged (.loading 20 1 []) small)
    (Commanded s ∧ openBatch s.batch.staging = true) ∧ (commanded [] State.reset).writesAt 0x5C#7 = true
    ∧ (commanded [] State.reset).loader.phase ≠ .running := by decide +kernel

theorem witness_CommandDispatch :
    commandCodes.contains 0xFF#8 = false ∧ (commanded [] small).writesAt 0x5C#7 = true
    ∧ (commanded [] small).selects (.i2c 0x2C#7) = true ∧ small.writesAt 0x5C#7 = false := by decide +kernel

theorem witness_BatchesAreLoaded :
    let c := commanded [127, 32] (locked [.revoke 641] [] 0 noTally)
    let o (g n : Nat) := commanded [g, n] small
    let l (ops : List Nat) (declared : Nat) (x : List BatchOp) := commanded ops (staged (.loading 20 declared x) small)
    (Commanded c ∧ NoOpenBatch c ∧ committing c.batch.staging = true)
    ∧ (Commanded (o 128 1) ∧ NoOpenBatch (o 128 1) ∧ committing (o 128 1).batch.staging = false ∧ 127 < operandByte (o 128 1) 0)
    ∧ (operandByte (o 0 65) 1 = 65 ∧ (127 : Group).val = operandByte (o 127 64) 0 ∧ operandByte (o 127 64) 1 = 64
      ∧ operandByte (o 127 33) 1 = 33 ∧ operandByte (o 127 32) 1 = 32 ∧ operandByte (o 127 1) 1 = 1)
    ∧ (Commanded (l [3, 0, 0x80, 2] 2 []) ∧ operandOp (l [3, 0, 0x80, 2] 2 []) = some (.revoke 640)
      ∧ groupOf (opEntry (.revoke 640)) = 20 ∧ operandOp (l [4] 2 []) = none ∧ operandOp (l [3, 1, 0x80, 2] 2 []) = none
      ∧ operandOp (l [3, 0, 0, 0x10] 2 []) = none ∧ operandOp (l [3, 0, 0xFF, 0x0F] 2 []) = some (.revoke 4095)
      ∧ groupOf 4095 ≠ 20 ∧ (640 : EntryIx) ∈ ([.revoke 640] : List BatchOp).map opEntry) := by decide +kernel

theorem witness_BatchCommits :
    let s := commanded [] (staged (.loaded 20 1 [.revoke 641]) small)
    let f : State := { s with freeze := ⟨1#128 <<< 20, none, false⟩ }
    let w (x : WalkState) (i : EntryIx) := walking x (.domainSweep 1) i s
    Commanded s ∧ s.batch.staging = .loaded 20 1 [.revoke 641] ∧ s.freeze.marks.getLsbD 20 = false ∧ s.sweep.walk = none
    ∧ f.freeze.marks.getLsbD (20 : Group).val = true ∧ (w .running 0).sweep.walk = some ⟨.running, .domainSweep 1, 0⟩
    ∧ groupOf 671 = 20 ∧ groupOf 672 ≠ 20 := by decide +kernel

theorem witness_FreezeCommands :
    let o (l u : Nat) := commanded [l, u] small
    let r : State := { o 5 6 with freeze := ⟨0x60#128, some ⟨5, 6⟩, true⟩ }
    Commanded (o 128 0) ∧ NoOpenBatch (o 128 0) ∧ 127 < operandByte (o 128 0) 0 ∧ (127 : Group).val = operandByte (o 127 127) 0
    ∧ (o 127 127).store.lockMark ≠ some 127 ∧ (commanded [20] (locked [.revoke 641] [] 0 noTally)).store.lockMark = some 20
    ∧ NoOpenBatch (commanded [20] (locked [.revoke 641] [] 0 noTally)) ∧ r.freeze.range = some ⟨5, 6⟩ ∧ (5 : Group) ≤ 5 ∧ (5 : Group) ≤ 6
    ∧ operandByte (o 6 5) 1 < operandByte (o 6 5) 0 ∧ r.freeze.rangeUsed = true ∧ (o 127 127).freeze.rangeUsed = false := by
  decide +kernel

theorem witness_WalksStart :
    let o (d : Nat) := commanded [d] small
    Commanded (o 8) ∧ NoOpenBatch (o 8) ∧ 7 < operandByte (o 8) 0 ∧ operandByte (o 7) 0 ≤ 7 ∧ (7 : Domain).val = operandByte (o 7) 0
    ∧ (o 7).sweep.walk = none ∧ committing (o 7).batch.staging = false
    ∧ (walking .suspended .scrub 0 (o 7)).sweep.walk ≠ none := by decide +kernel

theorem witness_WalksAreSteered :
    let w (x : WalkState) := walking x (.domainSweep 2) 4095 (commanded [] small)
    Commanded (w .running) ∧ NoOpenBatch (w .running) ∧ (commanded [] small).sweep.walk = none
    ∧ (w .waitingDrain).sweep.walk = some ⟨.waitingDrain, .domainSweep 2, 4095⟩
    ∧ (w (.suspending true)).sweep.walk = some ⟨.suspending true, .domainSweep 2, 4095⟩
    ∧ committing (w .suspended).batch.staging = false
    ∧ (let c := walking .suspended .scrub 0 (commanded [] (locked [.revoke 641] [] 0 noTally))
      Commanded c ∧ NoOpenBatch c ∧ committing c.batch.staging = true) := by decide +kernel

theorem witness_ForcesDrainAndClearsErrors :
    let o (lo hi : Nat) := commanded [lo, hi] small
    Commanded (o 0 16) ∧ NoOpenBatch (o 0 16) ∧ 4095 < operandByte (o 0 16) 0 + 256 * operandByte (o 0 16) 1
    ∧ (4095 : EntryIx).val = operandByte (o 255 15) 0 + 256 * operandByte (o 255 15) 1
    ∧ isRevoking ((o 255 15).entry 4095).contents = false
    ∧ (646 : EntryIx).val = operandByte (o 0x86 2) 0 + 256 * operandByte (o 0x86 2) 1
    ∧ ((o 0x86 2).entry 646).contents = revoking 2 := by decide +kernel

theorem witness_RequesterCommands :
    let o (ops : List Nat) := commanded ops small
    let c := commanded [2, 2, 7, 64] (small.acceptClearing 2 .toDefaults)
    Commanded (o [8]) ∧ NoOpenBatch (o [8]) ∧ 7 < operandByte (o [8]) 0 ∧ 1 < operandByte (o [7, 2]) 1
    ∧ ((7 : Domain).val = operandByte (o [7, 1]) 0 ∧ operandByte (o [7, 1]) 1 ≤ 1)
    ∧ (15 < operandByte (o [16]) 0 ∧ 2 < operandByte (o [0, 3]) 1 ∧ 7 < operandByte (o [0, 0, 8]) 2
      ∧ 64 < operandByte (o [0, 0, 0, 65]) 3)
    ∧ ((15 : ReqId).val = operandByte (o [15, 2, 7, 64]) 0 ∧ (7 : Domain).val = operandByte (o [15, 2, 7, 64]) 2
      ∧ (64 : Fin 65).val = operandByte (o [15, 2, 7, 64]) 3 ∧ operandByte (o [15, 2, 7, 64]) 1 = 2
      ∧ ((o [15, 2, 7, 64]).requester 15).clearing = none)
    ∧ (Commanded c ∧ NoOpenBatch c ∧ (c.requester 2).clearing ≠ none ∧ operandByte c 1 ≤ 2) := by decide +kernel

theorem witness_QueriesAnswer :
    let o (ops : List Nat) := commanded ops small
    (o [0, 16]).writesAt 0x5C#7 = true ∧ 4095 < operandByte (o [0, 16]) 0 + 256 * operandByte (o [0, 16]) 1
    ∧ (4095 : EntryIx).val = operandByte (o [255, 15]) 0 + 256 * operandByte (o [255, 15]) 1
    ∧ 63 < operandByte (o [64]) 0 ∧ (63 : Tag).val = operandByte (o [63]) 0 ∧ 7 < operandByte (o [8]) 0
    ∧ (7 : SlotIx).val = operandByte (o [7]) 0 ∧ 15 < operandByte (o [16]) 0 ∧ operandByte (o [15]) 0 ≤ 15
    ∧ (15 : ReqId).val = operandByte (o [15]) 0
    ∧ (good (live 2) 1 3).contents = .live ⟨0x2001#24, .readWrite, .snooped, 2#8⟩
    ∧ (good (revoking 2) 1 3).contents = .revoking ⟨0x2001#24, .readWrite, .snooped, 2#8⟩
    ∧ (stored true).carrier 5 = some 7 ∧ (∀ k : SlotIx, slotTag (stored true).queue[k] ≠ some 63) := by decide +kernel

theorem witness_BytesAreRead :
    let s (a : Nat) := readingAt a small
    let c := run (.multiByteCaptureRead (.i2c 0x2C#7 true)) (readingAt 0x30 small)
    (s 0x39).readable (.i2c 0x2C#7) = true ∧ (s 0x39).mgmt.pointer = 0x39#7
    ∧ capturedAt (s 0x30).mgmt.pointer.toNat = some (.firstError, 0) ∧ capturedAt (s 0x24).mgmt.pointer.toNat = some (.freezeMarks, 14 + 1)
    ∧ capturedIn (s 0x24).mgmt.captures .freezeMarks = none
    ∧ (capturedAt c.mgmt.pointer.toNat = some (.firstError, 0 + 1) ∧ capturedIn c.mgmt.captures .firstError = some 0
      ∧ c.readable (.i2c 0x2C#7) = true)
    ∧ (small.mgmt.mode = .i2c ∧ (run (.powerOn ⟨true, 0#2, []⟩) small).mgmt.mode = .spi)
    ∧ capturedAt (s 0x14).mgmt.pointer.toNat = none ∧ capturedAt (s 0x25).mgmt.pointer.toNat = none
    ∧ small.freeze.range = none ∧ CapturedValue.base ≠ .cursor ∧ small.errors.first = none
    ∧ (recordError small.settings (.drainExpired 646 64) small.errors).first = some (.drainExpired 646 64) := by decide +kernel

theorem witness_AlertControlWritten :
    (writingAt 0x38 State.reset).writesAt 0x38#7 = true ∧ (7#8).getLsbD 0 = true ∧ (2#8).getLsbD 1 = true
    ∧ (4#8).getLsbD 2 = true ∧ (writingAt 0x38 State.reset).selects (.i2c 0x2C#7) = true := by decide +kernel

theorem witness_SettingsWritten :
    (∀ a ∈ [0x3A, 0x46, 0x47, 0x48, 0x49, 0x4A, 0x4B, 0x4C, 0x4D, 0x4E, 0x4F],
      (writingAt a small).mgmt.transaction = .writing ∧ (writingAt a small).mgmt.pointer.toNat = a)
    ∧ snoopOfCode (1#8).toNat = some .direct ∧ discardTimeOfCode (3#8).toNat = some .us1024
    ∧ drainTimeOfCode (4#8).toNat = some .unlimited ∧ quarantineTimeOfCode (3#8).toNat = some .ms1000
    ∧ (15#8).toNat < 16 ∧ (127#8).toNat < 128 ∧ (31#8).toNat < 32 ∧ 1 < (2#8).toNat ∧ 4 < (5#8).toNat ∧ (1#8).toNat < 2
    ∧ 2 ≤ (2#8).toNat ∧ small.loader.phase ≠ .loading ∧ State.reset.loader.phase = .loading := by decide +kernel

theorem witness_SettingsWritten_register :
    ∀ a ∈ [0x3A, 0x46, 0x4B, 0x4C, 0x4D, 0x4E, 0x4F], (writingAt a small).selects (.i2c 0x2C#7) = true := by decide +kernel

theorem witness_TransactionsRun_others :
    let o (ops : List Nat) := commanded ops small
    small.selects .spi = false ∧ small.selects (.i2c 0x2D#7) = false ∧ Interface.spi ≠ small.mgmt.mode
    ∧ (writingAt 0 small).readable (.i2c 0x2C#7) = false ∧ (readingAt 0 small).mgmt.transaction ≠ .none
    ∧ (readingAt 0 small).mgmt.transaction ≠ .writing
    ∧ (4095 < operandPair (o [1, 0, 0, 16]) 2 3 ∧ (o [0]).mgmt.operands[0] = 0#8 ∧ 3#8 < (o [4]).mgmt.operands[0])
    ∧ ((o [3, 1]).mgmt.operands[0] = 3#8 ∧ (o [3, 1]).mgmt.operands[1].getLsbD 0 = true)
    ∧ ((4095 : EntryIx).val = operandPair (o [2, 14, 255, 15]) 2 3 ∧ (o [2]).mgmt.operands[0] = 2#8
      ∧ (o [1]).mgmt.operands[0] = 1#8) := by decide +kernel

theorem witness_TransactionsRun :
    let spi : State := run (.powerOn ⟨true, 0#2, []⟩) small
    small.selects (.i2c 0x2C#7) = true ∧ small.mgmt.transaction = .none ∧ small.mgmt.mode = .i2c
    ∧ spi.selects .spi = true ∧ spi.mgmt.transaction = .none ∧ spi.mgmt.mode = .spi
    ∧ (∀ k : Fin 12, (writingAt (0x50 + k.val) small).mgmt.pointer.toNat = 0x50 + k.val)
    ∧ (∀ a ∈ [0, 0x37, 0x39, 0x3B, 0x45, 0x5D, 0x7F], (writingAt a small).mgmt.pointer.toNat = a
      ∧ (writingAt a small).mgmt.transaction = .writing) := by decide +kernel

theorem witness_StorageIsDamaged : Canonical small := by decide +kernel

/-- A state with a command queued; each law below holds in such a state, and the step answers a next state. -/
def queued (s : State) : State := { s with pending := [.rspTaken] }

theorem witness_step (s : State) : ∃ t, step (queued s) = .next t := by
  show ∃ t, execRspTaken { queued s with pending := [] } = .next t
  unfold execRspTaken
  split <;> exact ⟨_, rfl⟩

theorem witness_TableStaysCanonical : Canonical (queued small) := by decide +kernel

theorem witness_LockLawHolds : LockLaw (queued (locked [.revoke 641] [] 0 noTally)) := by
  refine ⟨?_, ?_, by decide +kernel⟩
  · intro g
    constructor
    · intro h
      cases h
      exact ⟨1, [.revoke 641], [], 0, noTally, rfl⟩
    · rintro ⟨n, ops, copies, k, t, h⟩
      cases h
      rfl
  · intro k q i h
    have hk : ∀ k : SlotIx, isWaiting (queued (locked [.revoke 641] [] 0 noTally)).queue[k] = false := by decide +kernel
    have := hk k
    rw [h] at this
    cases this

theorem witness_FreezeAndClosingLawsHold :
    FreezeLaw (queued { small with freeze := ⟨0x60#128, some ⟨5, 6⟩, true⟩ })
    ∧ ClosingLaw (queued (walking .running (.domainSweep 2) 0 (small.putDomain 2 ⟨false, true⟩))) := by
  constructor
  · intro r h
    cases h
    refine ⟨rfl, by decide +kernel⟩
  · intro d
    have h : ∀ d : Domain, (((queued (walking .running (.domainSweep 2) 0 (small.putDomain 2 ⟨false, true⟩))).domainRecord d).closing
      = true ↔ d = 2) := by decide +kernel
    rw [h d]
    constructor
    · rintro rfl
      exact ⟨_, rfl, rfl⟩
    · rintro ⟨w, hw, hk⟩
      cases hw
      cases hk
      rfl

theorem witness_WalkLawHolds : WalkLaw (queued (walking .running (.domainSweep 2) 300 small)) := by
  constructor
  · intro w h
    cases h
    exact ⟨by decide +kernel, by simp, _, rfl, rfl, rfl⟩
  · intro h
    cases h

theorem witness_StagingLawHolds : StagingLaw (queued (locked [.revoke 641] [] 0 noTally)) := by
  constructor
  · refine ⟨rfl, by decide, by decide, ⟨?_, by decide⟩, by decide, by decide, by decide, by decide⟩
    intro op h
    rw [List.mem_singleton] at h
    subst h
    rfl
  · intro g n t h
    cases h

theorem witness_CarriedLawHolds : CarriedLaw (queued (stored true)) := by
  have h7 : (queued (stored true)).queue =
      PendingQueue.reset.set (7 : SlotIx) (.ready (request 2 641 .read true) 641 (granted (some 5)) 500) := rfl
  have hq : ∀ k : SlotIx, k = 7 ∨ (queued (stored true)).queue[k] = .empty := by decide +kernel
  refine ⟨?_, by decide +kernel, ?_⟩
  · intro k q i a d t h ht
    rcases hq k with rfl | hk
    · have h' : Slot.ready (request 2 641 .read true) 641 (granted (some 5)) 500 = .ready q i a d := h
      injection h' with e1 e2 e3 e4
      subst e1 e2 e3 e4
      have e5 : (5 : Tag) = t := Option.some.inj ht
      subst e5
      exact ⟨⟨2, 641, 3#16, .read⟩, by decide +kernel, rfl, rfl⟩
    · rw [hk] at h
      cases h
  · intro k q h
    rcases hq k with rfl | hk
    · have h' : some (request 2 641 .read true) = some q := h
      cases h'
      decide +kernel
    · rw [hk] at h
      cases h

theorem witness_CountLawHolds_state : CountLaw (queued running) := by
  refine ⟨by decide +kernel, ?_⟩
  intro i
  have h : ∀ t : Tag, activeOn i (queued running).claims[t] = false := by
    intro t
    have : (queued running).claims[t] = .free := by revert t; decide +kernel
    rw [this]
    rfl
  simp only [h]
  rfl

theorem witness_DisabledLawHolds : DisabledLaw (queued small) := by
  have h : ∀ t : Tag, claimOf (queued small).claims[t] = none ∨ claimOf (queued small).claims[t] = some ⟨2, 646, 4#16, .read⟩ := by
    decide +kernel
  refine ⟨?_, by decide +kernel, by decide +kernel, ?_⟩
  · intro t c hc
    rcases h t with h | h
    · rw [h] at hc
      cases hc
    · rw [h] at hc
      cases hc
      decide +kernel
  · intro hp
    cases hp

theorem witness_NoDeadlineIsOverrun : DeadlineLaw (queued { small with now := 1000 }) := by
  have hr : ∀ r, ((queued { small with now := 1000 }).requester r).deadline = none := by decide +kernel
  have hq : ∀ k : SlotIx, slotDeadline (queued { small with now := 1000 }).queue[k] = none := by decide +kernel
  refine ⟨?_, ?_, ?_, by decide +kernel⟩
  · intro r d h
    rw [hr] at h
    cases h
  · intro k d h
    rw [hq] at h
    cases h
  · intro x hx d h
    have hx' : x ∈ ([⟨646, some 1000⟩] : DrainList) := hx
    rw [List.mem_singleton] at hx'
    subst hx'
    have h' : some 1000 = some d := h
    cases h'
    exact Nat.le_refl _

/-- A commit with an op validated, and an entry draining: the premises of the Drain List's law. -/
theorem witness_NoDeadlineIsOverrun_drains :
    let s := queued (locked [.revoke 641] [⟨live 2, 0⟩] 0 noTally)
    StagingLaw s ∧ WalkLaw s ∧ DrainLaw s ∧ ¬ DamageNext s := by
  refine ⟨?_, ?_, ⟨by decide +kernel, ?_, ?_, by decide +kernel, by decide +kernel, by decide +kernel⟩, ?_⟩
  · refine ⟨⟨rfl, by decide, by decide, ⟨?_, by decide⟩, by decide, by decide, by decide, by decide⟩, ?_⟩
    · intro op h
      rw [List.mem_singleton] at h
      subst h
      rfl
    · intro g n t h
      cases h
  · refine ⟨?_, ?_⟩
    · intro w h
      cases h
    · intro _ r h
      cases h
  · intro g n ops copies k t h j op c _ hop hc
    cases h
    cases j with
    | zero =>
      cases hop
      cases hc
      decide +kernel
    | succ j => cases hop
  · intro i
    have hs : (queued (locked [.revoke 641] [⟨live 2, 0⟩] 0 noTally)).store.entries = [(641, good (live 2) 0 3),
        (643, good (liveReadOnly 2) 0 1), (644, good (live 4) 0 2), (645, good .poisoned 0 7), (646, good (revoking 2) 1 5),
        (4095, good (live 2) 63 9)] := by decide +kernel
    have hd : (∃ d ∈ (queued (locked [.revoke 641] [⟨live 2, 0⟩] 0 noTally)).drain, d.entry = i) ↔ i.val = 646 := by
      show (∃ d ∈ [(⟨646, some 1000⟩ : DrainItem)], d.entry = i) ↔ _
      simp [Fin.ext_iff, eq_comm]
    rw [hd, State.entry, hs]
    simp only [Table.get]
    split_ifs with h1 h2 h3 h4 h5 h6
    all_goals
      simp [good, live, liveReadOnly, revoking, isRevoking, clearedEntry]
      try omega
  · rintro ⟨i, e, rest, h⟩
    cases h

theorem witness_CountLawHolds : ¬ DamageNext { small with pending := [.scrubStep] } := by
  rintro ⟨i, e, rest, h⟩
  cases h

end Sys2Proof.Tests
end

section
/-! SUPPORT. The Grant Table stays in canonical form (01 R22) through every operation that touches the part. -/

namespace Sys2Proof.Machine

/-! ### The Grant Table's canonical form (01 R22): operations -/

/-- An operation that leaves the Table Store leaves the canonical form. -/
theorem canonical_of_store {s t : State} (h : t.store = s.store) (hs : Canonical s) : Canonical t :=
  canonical_congr (congrArg TableStore.entries h) hs

theorem canonical_updateReport {s : State} (h : Canonical s) (f : SweepReport → SweepReport) :
    Canonical (s.updateReport f) := canonical_of_store rfl h

theorem canonical_addDrain {s : State} (h : Canonical s) (i : EntryIx) : Canonical (s.addDrain i) :=
  canonical_of_store rfl h

theorem canonical_advance {s : State} (h : Canonical s) (w : Walk) (n : Nat) : Canonical (s.advance w n) :=
  canonical_of_store (State.advance_store w n s) h

theorem canonical_lackItem {s : State} (h : Canonical s) (w : Walk) : Canonical (s.lackItem w) := by
  obtain ⟨_, _, _, hw⟩ := State.lackItem_shape w s
  exact canonical_of_store (by rw [hw]) h

theorem canonical_sweepTake {s : State} (h : Canonical s) (w : Walk) (d : Domain) : Canonical (s.sweepTake w d) := by
  have hread := canonical_readEntry h .sweep w.cursor
  have hwrite := canonical_sweepWrite hread w.cursor
  unfold State.sweepTake
  dsimp only
  split
  case h_1 => exact canonical_advance (canonical_updateReport hread _) _ _
  case h_2 => exact canonical_advance hread _ _
  case h_3 p _ =>
    split
    · exact canonical_advance (canonical_updateReport (hwrite _) _) _ _
    · exact canonical_advance hread _ _
  case h_4 p _ =>
    split
    · split
      · exact canonical_advance (canonical_updateReport (hwrite _) _) _ _
      · split
        · exact canonical_advance (canonical_updateReport (hwrite _) _) _ _
        · split
          · exact canonical_advance (canonical_updateReport (canonical_addDrain (hwrite _) _) _) _ _
          · exact canonical_lackItem hread _
    · exact canonical_advance hread _ _

theorem canonical_sweepStepOf {s : State} (h : Canonical s) (w : Walk) (d : Domain) : Canonical (s.sweepStepOf w d) := by
  unfold State.sweepStepOf
  split
  · exact canonical_advance (canonical_updateReport h _) _ _
  · exact canonical_sweepTake h _ _

theorem canonical_scrubStepOf {s : State} (h : Canonical s) (w : Walk) : Canonical (s.scrubStepOf w) := by
  have hread := canonical_readEntry h .scrub w.cursor
  unfold State.scrubStepOf
  dsimp only
  split
  · exact canonical_advance (canonical_updateReport hread _) _ _
  · exact canonical_advance hread _ _

theorem canonical_retake {s : State} (h : Canonical s) : Canonical s.retake := by
  unfold State.retake
  split
  · split
    · exact canonical_sweepTake h _ _
    · exact h
  · exact h

theorem canonical_settle {t : State} (h : Canonical t) (s : State) : Canonical (settle s t) := by
  rcases settle_cases s t with hs | hs <;> rw [hs]
  · exact h
  · exact canonical_retake h

theorem canonical_evaluateSlot {s : State} (h : Canonical s) (k : SlotIx) : Canonical (s.evaluateSlot k) := by
  have hev (q : Request) (i : EntryIx) : Canonical (s.evaluate q i).1 := by
    unfold State.evaluate
    split
    · exact h
    · exact canonical_entryTests h q i
  unfold State.evaluateSlot
  split
  · dsimp only
    split
    · exact canonical_of_store (State.putSlot_store _ _ _) (hev _ _)
    · exact canonical_of_store (State.putSlot_store _ _ _) (hev _ _)
  · exact h

theorem canonical_evaluateWaiting {s : State} (h : Canonical s) : Canonical s.evaluateWaiting := by
  unfold State.evaluateWaiting
  exact State.foldl_keeps (p := Canonical) (fun _ k hu => canonical_evaluateSlot hu k) _ h

theorem canonical_deliver {s : State} (h : Canonical s) (r : ReqId) (a : Response) : Canonical (s.deliver r a) :=
  canonical_of_store (State.deliver_store r a s) h

theorem canonical_fault {s : State} (h : Canonical s) (r : ReqId) (k : FaultKind) : Canonical (s.fault r k) :=
  canonical_of_store (State.fault_store r k s) h

theorem canonical_resolveInside {s : State} (h : Canonical s) (q : Request) : Canonical (s.resolveInside q).1 := by
  unfold State.resolveInside
  split
  · split
    · exact h
    · exact canonical_entryTests h _ _
  · split
    · obtain ⟨_, hq⟩ := State.storeRequest_shape q (s.pageOf q.address) s
      exact canonical_of_store (by rw [hq]) h
    · exact canonical_entryTests h _ _

theorem canonical_resolveRequest {s : State} (h : Canonical s) (q : Request) : Canonical (s.resolveRequest q).1 := by
  unfold State.resolveRequest
  split
  · exact h
  · split
    · exact h
    · split
      · exact canonical_resolveInside h q
      · exact h

theorem canonical_releaseRequest {s : State} (h : Canonical s) (r : ReqId) (t : Tag) :
    Canonical (s.releaseRequest r t).1 := by
  unfold State.releaseRequest
  split
  · exact h
  · split
    · exact canonical_freeClaim h t
    · exact h
  · split
    · split
      · exact canonical_freeClaim (s := s.putSlot _ .empty) h t
      · exact canonical_freeClaim h t
    · exact h

theorem canonical_acceptClearing {s : State} (h : Canonical s) (r : ReqId) (c : Clearing) :
    Canonical (s.acceptClearing r c) := by
  unfold State.acceptClearing
  exact canonical_dropSlotsOf (canonical_of_store (State.putRequester_store _ _ _) h) r

theorem canonical_slotResetRequest {s : State} (h : Canonical s) (r : ReqId) : Canonical (s.slotResetRequest r) := by
  unfold State.slotResetRequest
  dsimp only [Canonical]
  split
  · exact h
  · exact canonical_acceptClearing h r .toDefaults

theorem canonical_interrupt {s : State} (h : Canonical s) : Canonical s.interrupt :=
  canonical_of_store (State.interrupt_store s) h

theorem canonical_closeCommit {s : State} (h : Canonical s) (r : CommitResult) : Canonical (s.closeCommit r) :=
  canonical_congr rfl h

theorem canonical_rejectCommit {s : State} (h : Canonical s) (g : Group) (n p : Nat) (i : EntryIx) (x : RejectReason) :
    Canonical (s.rejectCommit g n p i x) := by
  unfold State.rejectCommit
  exact canonical_evaluateWaiting (canonical_closeCommit (canonical_of_store (State.report_store _ _) h) _)

/-! ### The canonical form through the load of the image and the resets (12) -/

theorem canonical_reportSkipped {s : State} (h : Canonical s) (x : ImageItem) (n : Nat) (f : ImageFlags → ImageFlags) :
    Canonical (s.reportSkipped x n f) := by
  obtain ⟨_, _, hr⟩ := State.reportSkipped_shape x n f s
  exact canonical_of_store (by rw [hr]) h

theorem canonical_loadCheck {s : State} (h : Canonical s) : Canonical s.loadCheck := by
  obtain ⟨_, _, hc⟩ := State.loadCheck_shape s
  exact canonical_of_store (by rw [hc]) h

theorem canonical_loadControl {s : State} (h : Canonical s) : Canonical s.loadControl := by
  have happly (c : ControlValues) : Canonical (s.applyControl c) := by
    unfold State.applyControl
    dsimp only
    refine canonical_reportSkipped ?_ _ _ _
    exact canonical_congr (s := s) rfl h
  unfold State.loadControl
  split
  · exact canonical_of_store (State.putWork_store _ _) (happly _)
  · exact canonical_of_store (State.putWork_store _ _) (happly _)
  · exact canonical_of_store (State.putWork_store _ _) (happly _)

theorem canonical_loadRequesters {s : State} (h : Canonical s) : Canonical s.loadRequesters := by
  obtain ⟨_, _, _, hr⟩ := State.loadRequesters_shape s
  exact canonical_of_store (by rw [hr]) h

theorem canonical_loadPreloadStart {s : State} (h : Canonical s) : Canonical s.loadPreloadStart := by
  obtain ⟨_, hp⟩ := State.loadPreloadStart_shape s
  exact canonical_of_store (by rw [hp]) h

theorem canonical_preloadRecords (l : List ImageWord) {r : PreloadRun} (h : Canonical r.state) :
    Canonical (preloadRecords l r).state := by
  fun_induction preloadRecords l r with
  | case1 a b c rest r ih => exact ih (canonical_takePreload h a b c)
  | case2 => exact h
  | case3 => exact h

theorem canonical_loadPreloadRest {s : State} (h : Canonical s) (l : List ImageWord) (m : List Nat) (n : Nat) :
    Canonical (s.loadPreloadRest l m n) := by
  unfold State.loadPreloadRest State.endPreload
  exact canonical_of_store (State.putWork_store _ _)
    (canonical_reportSkipped (canonical_preloadRecords l (r := ⟨s, m, n⟩) h) _ _ _)

theorem canonical_loadPreloadPiece {s : State} (h : Canonical s) (l : List ImageWord) (m : List Nat) (n : Nat) :
    Canonical (s.loadPreloadPiece l m n) := by
  unfold State.loadPreloadPiece
  split
  · exact canonical_of_store (State.putWork_store _ _) (canonical_takePreload (r := ⟨s, m, n⟩) h _ _ _)
  · exact canonical_loadPreloadRest h l m n

theorem canonical_loadFromPreload {s : State} (h : Canonical s) : Canonical s.loadFromPreload := by
  unfold State.loadFromPreload
  split
  · exact canonical_loadPreloadRest h _ _ _
  · exact h

theorem canonical_loadFreeze {s : State} (h : Canonical s) : Canonical s.loadFreeze := by
  obtain ⟨_, _, _, hf⟩ := State.loadFreeze_shape s
  exact canonical_of_store (by rw [hf]) h

theorem canonical_loadPiece {s : State} (h : Canonical s) : Canonical s.loadPiece := by
  unfold State.loadPiece
  split
  · exact canonical_loadCheck h
  · exact canonical_loadControl h
  · exact canonical_loadRequesters h
  · exact canonical_loadPreloadStart h
  · exact canonical_loadPreloadPiece h _ _ _
  · exact canonical_loadFreeze h
  · exact h
  · exact h

theorem canonical_loadRest {s : State} (h : Canonical s) : Canonical s.loadRest := by
  have hstage {c : Prop} [Decidable c] {u v : State} (hu : Canonical u) (hv : Canonical v) :
      Canonical (if c then v else u) := by
    split
    · exact hv
    · exact hu
  have hcheck : Canonical s.loadFromCheck := hstage h (canonical_loadCheck h)
  have hcontrol : Canonical s.loadFromCheck.loadFromControl := hstage hcheck (canonical_loadControl hcheck)
  have hrequesters := hstage (c := s.loadFromCheck.loadFromControl.loader.work = .requester) hcontrol
    (canonical_loadRequesters hcontrol)
  have hstart := hstage (c := s.loadFromCheck.loadFromControl.loadFromRequesters.loader.work = .preloadStart) hrequesters
    (canonical_loadPreloadStart hrequesters)
  have hpreload := canonical_loadFromPreload hstart
  exact hstage hpreload (canonical_loadFreeze hpreload)

theorem canonical_tick {s : State} (h : Canonical s) : Canonical s.tick := by
  show Canonical s.loadTick
  unfold State.loadTick
  dsimp only
  split
  · split
    · exact canonical_loadPiece (s := { s with free := s.free + 1 }) h
    · exact h
  · exact h

theorem canonical_fullReset (s : State) (r : CommitResult) (x : Transaction) : Canonical (s.fullReset r x) :=
  canonical_reset

theorem canonical_acceptTableReset (s : State) : Canonical s.acceptTableReset := canonical_reset

end Sys2Proof.Machine
end

section
/-! SUPPORT. The Grant Table stays in canonical form through every host command. -/

namespace Sys2Proof.Machine

/-! ### The canonical form through a host command's own tests and effect (11 R181) -/

theorem canonical_setStatus {s : State} (h : Canonical s) (e : CommandEnd) : Canonical (s.setStatus e) :=
  canonical_of_store (State.setStatus_store e s) h

theorem canonical_byteTaken {s : State} (h : Canonical s) : Canonical s.byteTaken :=
  canonical_of_store (State.byteTaken_store s) h

theorem canonical_abortBatch {s : State} (h : Canonical s) (x : AbortReason) : Canonical (s.abortBatch x) :=
  canonical_of_store rfl h

theorem canonical_endWalk {s : State} (h : Canonical s) (w : Walk) (x : WalkEnd) : Canonical (s.endWalk w x) :=
  canonical_of_store (State.endWalk_store w x s) h

theorem canonical_openTests {s : State} (h : Canonical s) : Canonical s.openTests.1 := by
  unfold State.openTests
  split
  · exact h
  · split
    · exact h
    · dsimp only
      split
      · exact h
      · split
        · exact canonical_abortBatch h _
        · exact h

theorem canonical_loadTests {s : State} (h : Canonical s) : Canonical s.loadTests.1 := by
  unfold State.loadTests
  split
  · exact h
  · exact h
  · exact canonical_abortBatch h _
  · split
    · exact h
    · split
      · exact canonical_abortBatch h _
      · split
        · exact canonical_abortBatch h _
        · exact canonical_of_store (State.putStaging_store _ _) h

theorem canonical_discardTests {s : State} (h : Canonical s) : Canonical s.discardTests.1 := by
  unfold State.discardTests
  split
  · exact h
  · exact h

theorem canonical_acceptCommit {s : State} (h : Canonical s) (g : Group) (n : Nat) (ops : List BatchOp) :
    Canonical (s.acceptCommit g n ops) :=
  canonical_congr (s := s) rfl h

theorem canonical_commitTests {s : State} (h : Canonical s) : Canonical s.commitTests.1 := by
  unfold State.commitTests
  split
  · exact h
  · exact canonical_abortBatch h _
  · exact h
  · split
    · exact canonical_of_store (s := s) rfl h
    · split
      · exact h
      · exact canonical_acceptCommit h _ _ _

theorem canonical_freezeGroupTests {s : State} (h : Canonical s) : Canonical s.freezeGroupTests.1 := by
  unfold State.freezeGroupTests
  split
  · exact h
  · split
    · exact h
    · exact h

theorem canonical_thawGroupTests {s : State} (h : Canonical s) : Canonical s.thawGroupTests.1 := by
  unfold State.thawGroupTests
  split
  · exact h
  · split
    · exact h
    · exact h

theorem canonical_freezeAllTests {s : State} (h : Canonical s) : Canonical s.freezeAllTests.1 := by
  unfold State.freezeAllTests
  split
  · exact h
  · exact h

theorem canonical_freezeRangeTests {s : State} (h : Canonical s) : Canonical s.freezeRangeTests.1 := by
  unfold State.freezeRangeTests
  split
  · exact h
  · split
    · exact h
    · exact h

theorem canonical_startWalk {s : State} (h : Canonical s) (k : WalkKind) : Canonical (s.startWalk k).1 := by
  unfold State.startWalk
  split
  · exact h
  · cases k with
    | domainSweep d => exact h
    | scrub => exact h

theorem canonical_domainSweepTests {s : State} (h : Canonical s) : Canonical s.domainSweepTests.1 := by
  unfold State.domainSweepTests
  split
  · exact h
  · exact canonical_startWalk h _

theorem canonical_suspendTests {s : State} (h : Canonical s) : Canonical s.suspendTests.1 := by
  unfold State.suspendTests
  split
  · exact h
  · split
    · exact h
    · exact h
    · exact h
    · exact h

theorem canonical_resumeTests {s : State} (h : Canonical s) : Canonical s.resumeTests.1 := by
  unfold State.resumeTests
  split
  · exact h
  · split
    · exact h
    · split
      · exact h
      · exact h

theorem canonical_cancelTests {s : State} (h : Canonical s) : Canonical s.cancelTests.1 := by
  unfold State.cancelTests
  split
  · exact h
  · split
    · exact h
    · exact canonical_endWalk h _ _
    · exact canonical_endWalk h _ _
    · exact canonical_endWalk h _ _

theorem canonical_forceDrainTests {s : State} (h : Canonical s) : Canonical s.forceDrainTests.1 := by
  unfold State.forceDrainTests
  split
  · exact h
  · split
    · exact canonical_settle (canonical_of_store (State.raise_store _ _) (canonical_endDrain h _)) s
    · exact h

theorem canonical_domainSetTests {s : State} (h : Canonical s) : Canonical s.domainSetTests.1 := by
  unfold State.domainSetTests
  split
  · exact h
  · split
    · exact h
    · exact h

theorem canonical_requesterSetTests {s : State} (h : Canonical s) : Canonical s.requesterSetTests.1 := by
  unfold State.requesterSetTests
  split
  · exact h
  · rename_i o _
    split
    · exact h
    · cases o.standing with
      | disabled =>
        dsimp only
        exact canonical_settle (canonical_acceptClearing h _ _) s
      | enabled => exact canonical_of_store (s := s) (State.putRequester_store _ _ s) h
      | quarantined => exact canonical_of_store (s := s) (State.putRequester_store _ _ s) h

theorem canonical_requesterResetTests {s : State} (h : Canonical s) : Canonical s.requesterResetTests.1 := by
  unfold State.requesterResetTests
  split
  · exact h
  · split
    · exact h
    · dsimp only
      exact canonical_settle (canonical_acceptClearing h _ _) s

/-! ### Host commands keep the canonical form -/

/-- The command's effect keeps the Grant Table's canonical form. -/
def KeepsCanonical (f : State → State) : Prop := ∀ s, Canonical s → Canonical (f s)

theorem keepsCanonical_interrupting {body : State → State × CommandEnd} (hb : ∀ s, Canonical s → Canonical (body s).1) :
    KeepsCanonical (State.interrupting body) := by
  intro s h
  unfold State.interrupting
  split
  · exact canonical_setStatus h _
  · exact canonical_setStatus (hb _ (canonical_interrupt h)) _

theorem keepsCanonical_batchCommand {body : State → State × CommandEnd} (hb : ∀ s, Canonical s → Canonical (body s).1) :
    KeepsCanonical (State.batchCommand body) := by
  intro s h
  unfold State.batchCommand
  split
  · exact canonical_setStatus h _
  · exact canonical_setStatus (hb _ h) _

theorem keepsCanonical_query {answer : State → Option (State × List Byte)}
    (ha : ∀ s r, Canonical s → answer s = some r → Canonical r.1) : KeepsCanonical (State.query answer) := by
  intro s h
  unfold State.query
  split
  · rename_i s1 bytes hr
    exact canonical_setStatus (canonical_of_store (s := s1) rfl (ha s (s1, bytes) h hr)) .done
  · exact canonical_setStatus h _

/-- A query that only looks answers from the state it is given. -/
theorem keepsCanonical_query_map {α : Type} (index : State → Option α) (bytes : State → α → List Byte) :
    KeepsCanonical (State.query (fun s => (index s).map (fun k => (s, bytes s k)))) := by
  refine keepsCanonical_query fun s r h hr => ?_
  obtain ⟨k, _, rfl⟩ := Option.map_eq_some_iff.1 hr
  exact h

theorem keepsCanonical_readEntryQuery : KeepsCanonical State.readEntryQuery := by
  refine keepsCanonical_query fun s r h hr => ?_
  unfold State.readEntryAnswer at hr
  split at hr
  · cases hr
  · cases hr
    exact canonical_settle (canonical_readEntry h _ _) s

theorem keepsCanonical_batchOpen : KeepsCanonical State.batchOpen :=
  keepsCanonical_interrupting fun _ => canonical_openTests

theorem keepsCanonical_batchLoad : KeepsCanonical State.batchLoad :=
  keepsCanonical_batchCommand fun _ => canonical_loadTests

theorem keepsCanonical_batchCommit : KeepsCanonical State.batchCommit :=
  keepsCanonical_batchCommand fun _ => canonical_commitTests

theorem keepsCanonical_batchDiscard : KeepsCanonical State.batchDiscard :=
  keepsCanonical_batchCommand fun _ => canonical_discardTests

theorem keepsCanonical_freezeGroup : KeepsCanonical State.freezeGroup :=
  keepsCanonical_interrupting fun _ => canonical_freezeGroupTests

theorem keepsCanonical_thawGroup : KeepsCanonical State.thawGroup :=
  keepsCanonical_interrupting fun _ => canonical_thawGroupTests

theorem keepsCanonical_freezeAll : KeepsCanonical State.freezeAll :=
  keepsCanonical_interrupting fun _ => canonical_freezeAllTests

theorem keepsCanonical_freezeRange : KeepsCanonical State.freezeRange :=
  keepsCanonical_interrupting fun _ => canonical_freezeRangeTests

theorem keepsCanonical_domainSweep : KeepsCanonical State.domainSweep :=
  keepsCanonical_interrupting fun _ => canonical_domainSweepTests

theorem keepsCanonical_scrub : KeepsCanonical State.scrub :=
  keepsCanonical_interrupting fun _ h => canonical_startWalk h .scrub

theorem keepsCanonical_sweepSuspend : KeepsCanonical State.sweepSuspend :=
  keepsCanonical_interrupting fun _ => canonical_suspendTests

theorem keepsCanonical_sweepResume : KeepsCanonical State.sweepResume :=
  keepsCanonical_interrupting fun _ => canonical_resumeTests

theorem keepsCanonical_sweepCancel : KeepsCanonical State.sweepCancel :=
  keepsCanonical_interrupting fun _ => canonical_cancelTests

theorem keepsCanonical_forceDrain : KeepsCanonical State.forceDrain :=
  keepsCanonical_interrupting fun _ => canonical_forceDrainTests

theorem keepsCanonical_domainSet : KeepsCanonical State.domainSet :=
  keepsCanonical_interrupting fun _ => canonical_domainSetTests

theorem keepsCanonical_requesterSet : KeepsCanonical State.requesterSet :=
  keepsCanonical_interrupting fun _ => canonical_requesterSetTests

theorem keepsCanonical_requesterReset : KeepsCanonical State.requesterReset :=
  keepsCanonical_interrupting fun _ => canonical_requesterResetTests

theorem keepsCanonical_clearErrors : KeepsCanonical State.clearErrors :=
  keepsCanonical_interrupting fun _ h => h

theorem keepsCanonical_tableReset : KeepsCanonical State.tableReset :=
  keepsCanonical_interrupting fun s _ => canonical_acceptTableReset s

theorem keepsCanonical_readClaimQuery : KeepsCanonical State.readClaimQuery :=
  keepsCanonical_query_map _ _

theorem keepsCanonical_readPendingQuery : KeepsCanonical State.readPendingQuery :=
  keepsCanonical_query_map _ _

theorem keepsCanonical_readDrainQuery : KeepsCanonical State.readDrainQuery :=
  keepsCanonical_query_map _ _

theorem keepsCanonical_readRequesterQuery : KeepsCanonical State.readRequesterQuery :=
  keepsCanonical_query_map _ _

theorem keepsCanonical_readSweepResultQuery : KeepsCanonical State.readSweepResultQuery :=
  keepsCanonical_query fun _ _ h hr => by cases hr; exact h

theorem keepsCanonical_readCommitResultQuery : KeepsCanonical State.readCommitResultQuery :=
  keepsCanonical_query fun _ _ h hr => by cases hr; exact h

theorem keepsCanonical_mem_ite {c : Prop} [Decidable c] {f : State → State} {rest : Option (State → State)}
    (hf : KeepsCanonical f) (hrest : ∀ g ∈ rest, KeepsCanonical g) :
    ∀ g ∈ if c then some f else rest, KeepsCanonical g := by
  split
  · rintro g ⟨⟩
    exact hf
  · exact hrest

theorem keepsCanonical_lowCommand (code : Byte) : ∀ f ∈ lowCommand code, KeepsCanonical f := by
  unfold lowCommand
  exact keepsCanonical_mem_ite keepsCanonical_batchOpen <|
    keepsCanonical_mem_ite keepsCanonical_batchLoad <|
    keepsCanonical_mem_ite keepsCanonical_batchCommit <|
    keepsCanonical_mem_ite keepsCanonical_batchDiscard <|
    keepsCanonical_mem_ite keepsCanonical_freezeGroup <|
    keepsCanonical_mem_ite keepsCanonical_thawGroup <|
    keepsCanonical_mem_ite keepsCanonical_freezeAll <|
    keepsCanonical_mem_ite keepsCanonical_freezeRange <|
    keepsCanonical_mem_ite keepsCanonical_domainSweep <|
    keepsCanonical_mem_ite keepsCanonical_scrub <|
    keepsCanonical_mem_ite keepsCanonical_sweepSuspend <|
    keepsCanonical_mem_ite keepsCanonical_sweepResume <|
    keepsCanonical_mem_ite keepsCanonical_sweepCancel <| by simp

theorem keepsCanonical_highCommand (code : Byte) : ∀ f ∈ highCommand code, KeepsCanonical f := by
  unfold highCommand
  exact keepsCanonical_mem_ite keepsCanonical_forceDrain <|
    keepsCanonical_mem_ite keepsCanonical_domainSet <|
    keepsCanonical_mem_ite keepsCanonical_requesterSet <|
    keepsCanonical_mem_ite keepsCanonical_requesterReset <|
    keepsCanonical_mem_ite keepsCanonical_clearErrors <|
    keepsCanonical_mem_ite keepsCanonical_tableReset <|
    keepsCanonical_mem_ite keepsCanonical_readEntryQuery <|
    keepsCanonical_mem_ite keepsCanonical_readClaimQuery <|
    keepsCanonical_mem_ite keepsCanonical_readPendingQuery <|
    keepsCanonical_mem_ite keepsCanonical_readDrainQuery <|
    keepsCanonical_mem_ite keepsCanonical_readRequesterQuery <|
    keepsCanonical_mem_ite keepsCanonical_readSweepResultQuery <|
    keepsCanonical_mem_ite keepsCanonical_readCommitResultQuery <| by simp

theorem canonical_dispatch {s : State} (h : Canonical s) (code : Byte) : Canonical (s.dispatch code) := by
  unfold State.dispatch
  split
  · exact canonical_fullReset _ _ _
  · refine canonical_byteTaken ?_
    cases hlow : lowCommand code with
    | some f => exact keepsCanonical_lowCommand code f hlow s h
    | none =>
      cases hhigh : highCommand code with
      | some f => exact keepsCanonical_highCommand code f hhigh s h
      | none => exact canonical_setStatus h (.refused .badOperand)

theorem writeSetting_store (f : Settings → Settings) (s : State) : (s.writeSetting f).store = s.store := by
  unfold State.writeSetting
  split
  · rfl
  · rfl

theorem storeByte_store (a : Nat) (v : Byte) (s : State) : (s.storeByte a v).store = s.store := by
  unfold State.storeByte
  split
  · rfl
  · split
    · exact writeSetting_store _ s
    · split
      · exact writeSetting_store _ s
      · split
        · exact writeSetting_store _ s
        · split
          · rfl
          · rfl

end Sys2Proof.Machine
end

section
/-! SUPPORT. The Grant Table stays in canonical form through every row of the command table, and so through every step. -/

namespace Sys2Proof.Machine

/-! ### Every command ends in canonical form -/

/-- A next state, if the outcome is one, has the Grant Table in canonical form. -/
def EndsCanonical (o : Host.Outcome State Fault Refusal) : Prop := ∀ t, o = .next t → Canonical t

theorem endsCanonical_next {s : State} (h : Canonical s) : EndsCanonical (.next s) := by
  rintro t ⟨⟩
  exact h

theorem endsCanonical_ite {c : Prop} [Decidable c] {a b : Host.Outcome State Fault Refusal} (ha : EndsCanonical a)
    (hb : EndsCanonical b) : EndsCanonical (if c then a else b) := by
  split
  · exact ha
  · exact hb

theorem endsCanonical_atCommandRegister {f : State → State} (hf : KeepsCanonical f) {s : State} (h : Canonical s) :
    EndsCanonical (atCommandRegister f s) :=
  endsCanonical_ite (endsCanonical_next (canonical_byteTaken (hf s h))) (endsCanonical_next h)

section Commands

variable {s : State} (h : Canonical s)

include h

theorem endsCanonical_execResolve (r : ReqId) (a : Address) (d : Dir) (c : Bool) :
    EndsCanonical (execResolve r a d c s) :=
  endsCanonical_ite (endsCanonical_next (canonical_settle (canonical_deliver (canonical_resolveRequest h _) _ _) s))
    (endsCanonical_next h)

theorem endsCanonical_execRelease (r : ReqId) (t : Tag) : EndsCanonical (execRelease r t s) :=
  endsCanonical_ite
    (endsCanonical_ite (endsCanonical_next (canonical_deliver h _ _))
      (endsCanonical_next (canonical_settle (canonical_deliver (canonical_releaseRequest h _ _) _ _) s)))
    (endsCanonical_next h)

theorem endsCanonical_execSlotReset (r : ReqId) : EndsCanonical (execSlotReset r s) :=
  endsCanonical_ite
    (endsCanonical_ite (endsCanonical_next (canonical_deliver h _ _))
      (endsCanonical_next (canonical_settle (canonical_slotResetRequest h _) s)))
    (endsCanonical_next h)

theorem endsCanonical_execMalformedRequest (k : BitVec 3) : EndsCanonical (execMalformedRequest k s) :=
  endsCanonical_ite (endsCanonical_next h) (endsCanonical_next h)

theorem endsCanonical_execRspTaken : EndsCanonical (execRspTaken s) := by
  unfold execRspTaken
  split
  · exact endsCanonical_next h
  · exact endsCanonical_next h
  · exact endsCanonical_next h

theorem endsCanonical_execRequesterClearingFree (r : ReqId) : EndsCanonical (execRequesterClearingFree r s) := by
  unfold execRequesterClearingFree
  split
  · split
    · exact endsCanonical_next (canonical_settle (canonical_freeClaim h _) s)
    · exact endsCanonical_next h
  · exact endsCanonical_next h

theorem endsCanonical_execRequesterClearingCompletion (r : ReqId) :
    EndsCanonical (execRequesterClearingCompletion r s) := by
  unfold execRequesterClearingCompletion
  split
  · exact endsCanonical_next h
  · exact endsCanonical_next h

theorem endsCanonical_execQuarantineDeadlineExpiry (r : ReqId) : EndsCanonical (execQuarantineDeadlineExpiry r s) :=
  endsCanonical_ite (endsCanonical_next h) (endsCanonical_next h)

theorem endsCanonical_execDiscardDeadlineExpiry (k : SlotIx) : EndsCanonical (execDiscardDeadlineExpiry k s) := by
  unfold execDiscardDeadlineExpiry
  split
  · split
    · exact endsCanonical_next (canonical_settle
        (canonical_fault (canonical_of_store (State.report_store _ _) (canonical_dropSlot h k)) _ _) s)
    · exact endsCanonical_next h
  · exact endsCanonical_next h
  · exact endsCanonical_next h

theorem endsCanonical_execDrainExpiry (p : Fin 16) : EndsCanonical (execDrainExpiry p s) := by
  unfold execDrainExpiry
  split
  · split
    · exact endsCanonical_next (canonical_settle (canonical_of_store (State.report_store _ _) (canonical_endDrain h _)) s)
    · exact endsCanonical_next h
  · exact endsCanonical_next h

theorem endsCanonical_execCommitValidation : EndsCanonical (execCommitValidation s) := by
  unfold execCommitValidation
  split
  · split
    · rename_i op _
      have hread := canonical_readEntry h .commit (opEntry op)
      dsimp only
      split
      · exact endsCanonical_next (canonical_settle (canonical_rejectCommit hread _ _ _ _ _) s)
      · exact endsCanonical_next (canonical_settle (canonical_of_store (State.putStaging_store _ _) hread) s)
    · exact endsCanonical_next h
  · exact endsCanonical_next h

theorem endsCanonical_execCommitApplication : EndsCanonical (execCommitApplication s) := by
  unfold execCommitApplication
  split
  · split
    · split
      · exact endsCanonical_next (canonical_of_store (State.putStaging_store _ _) (canonical_applyOp h _ _))
      · exact endsCanonical_next h
    · exact endsCanonical_next h
  · exact endsCanonical_next h

theorem endsCanonical_execCommitCompletion : EndsCanonical (execCommitCompletion s) := by
  unfold execCommitCompletion
  split
  · split
    · exact endsCanonical_next (canonical_settle (canonical_evaluateWaiting (canonical_closeCommit h _)) s)
    · exact endsCanonical_next h
  · exact endsCanonical_next h

theorem endsCanonical_execSweepStep : EndsCanonical (execSweepStep s) := by
  unfold execSweepStep
  split
  · exact endsCanonical_next h
  · split
    · exact endsCanonical_ite (endsCanonical_next (canonical_sweepStepOf h _ _)) (endsCanonical_next h)
    · exact endsCanonical_next h

theorem endsCanonical_execScrubStep : EndsCanonical (execScrubStep s) := by
  unfold execScrubStep
  split
  · exact endsCanonical_next h
  · split
    · exact endsCanonical_ite (endsCanonical_next (canonical_scrubStepOf h _)) (endsCanonical_next h)
    · exact endsCanonical_next h

theorem endsCanonical_execSweepRetake : EndsCanonical (execSweepRetake s) := by
  unfold execSweepRetake
  split
  · exact endsCanonical_ite (endsCanonical_next (canonical_retake h)) (endsCanonical_next h)
  · exact endsCanonical_next h

theorem endsCanonical_execImageLoadDone : EndsCanonical (execImageLoadDone s) :=
  endsCanonical_ite (endsCanonical_next (canonical_of_store (State.enterRunning_store _) (canonical_loadRest h)))
    (endsCanonical_next h)

theorem endsCanonical_execPreloadReloadDone : EndsCanonical (execPreloadReloadDone s) :=
  endsCanonical_ite (endsCanonical_next (canonical_of_store (State.enterRunning_store _) (canonical_loadFromPreload h)))
    (endsCanonical_next h)

theorem endsCanonical_execResetAssert : EndsCanonical (execResetAssert s) :=
  endsCanonical_ite (endsCanonical_next h) (endsCanonical_next (canonical_fullReset _ _ _))

theorem endsCanonical_execFullReset : EndsCanonical (execFullReset s) :=
  endsCanonical_ite (endsCanonical_next (canonical_fullReset _ _ _)) (endsCanonical_next h)

theorem endsCanonical_execUndefinedCommandCode (c : Byte) : EndsCanonical (execUndefinedCommandCode c s) :=
  endsCanonical_ite (endsCanonical_next h)
    (endsCanonical_atCommandRegister (fun _ hu => canonical_setStatus hu (.refused .badOperand)) h)

theorem endsCanonical_execEventRegisterRead (b : ReadBus) : EndsCanonical (execEventRegisterRead b s) :=
  endsCanonical_ite (endsCanonical_next h) (endsCanonical_next h)

theorem endsCanonical_execMultiByteCaptureRead (b : ReadBus) : EndsCanonical (execMultiByteCaptureRead b s) :=
  endsCanonical_ite (endsCanonical_next h) (endsCanonical_next h)

theorem endsCanonical_execAlertAssertedClear (v : Byte) : EndsCanonical (execAlertAssertedClear v s) :=
  endsCanonical_ite (endsCanonical_next h) (endsCanonical_next h)

theorem endsCanonical_execOverrideClear (v : Byte) : EndsCanonical (execOverrideClear v s) :=
  endsCanonical_ite (endsCanonical_next h) (endsCanonical_next h)

theorem endsCanonical_execOverrideSet (v : Byte) : EndsCanonical (execOverrideSet v s) :=
  endsCanonical_ite (endsCanonical_next h) (endsCanonical_next h)

theorem endsCanonical_execSingleByteSettingWrite (v : Byte) : EndsCanonical (execSingleByteSettingWrite v s) :=
  endsCanonical_ite (endsCanonical_next (canonical_byteTaken (canonical_of_store (writeSetting_store _ _) h)))
    (endsCanonical_next h)

theorem endsCanonical_execSettingLowerByteWrite (v : Byte) : EndsCanonical (execSettingLowerByteWrite v s) :=
  endsCanonical_ite (endsCanonical_next (canonical_byteTaken (canonical_of_store (writeSetting_store _ _) h)))
    (endsCanonical_next h)

theorem endsCanonical_execSettingHigherByteWrite (v : Byte) : EndsCanonical (execSettingHigherByteWrite v s) :=
  endsCanonical_ite (endsCanonical_next (canonical_byteTaken (canonical_of_store (writeSetting_store _ _) h)))
    (endsCanonical_next h)

theorem endsCanonical_execPointerSet (b : Bus) (v : Byte) : EndsCanonical (execPointerSet b v s) :=
  endsCanonical_ite (endsCanonical_next h) (endsCanonical_next h)

theorem canonical_writeNext (v : Byte) : Canonical (s.writeNext v) := by
  unfold State.writeNext
  split
  · exact canonical_dispatch h v
  · exact canonical_byteTaken (canonical_of_store (storeByte_store _ _ _) h)

theorem endsCanonical_execRegisterWrite (b : Bus) (v : Byte) : EndsCanonical (execRegisterWrite b v s) :=
  endsCanonical_ite (endsCanonical_next (canonical_writeNext h v)) (endsCanonical_next h)

theorem endsCanonical_execStorageDamage (i : EntryIx) (e : GrantEntry) : EndsCanonical (execStorageDamage i e s) :=
  endsCanonical_next (canonical_putEntry h i e)

theorem endsCanonical_execTransactionEnd (x : Interface) : EndsCanonical (execTransactionEnd x s) :=
  endsCanonical_ite (endsCanonical_next h) (endsCanonical_next h)

end Commands

/-- Every command of the table keeps the Grant Table's canonical form. -/
theorem endsCanonical_exec (c : Instr) {s : State} (h : Canonical s) : EndsCanonical (exec c s) := by
  cases c with
  | resolve r a d c => exact endsCanonical_execResolve h r a d c
  | release r t => exact endsCanonical_execRelease h r t
  | slotReset r => exact endsCanonical_execSlotReset h r
  | malformedRequest k => exact endsCanonical_execMalformedRequest h k
  | rspTaken => exact endsCanonical_execRspTaken h
  | requesterClearingFree r => exact endsCanonical_execRequesterClearingFree h r
  | requesterClearingCompletion r => exact endsCanonical_execRequesterClearingCompletion h r
  | quarantineDeadlineExpiry r => exact endsCanonical_execQuarantineDeadlineExpiry h r
  | discardDeadlineExpiry k => exact endsCanonical_execDiscardDeadlineExpiry h k
  | drainExpiry p => exact endsCanonical_execDrainExpiry h p
  | commitValidation => exact endsCanonical_execCommitValidation h
  | commitApplication => exact endsCanonical_execCommitApplication h
  | commitCompletion => exact endsCanonical_execCommitCompletion h
  | sweepStep => exact endsCanonical_execSweepStep h
  | scrubStep => exact endsCanonical_execScrubStep h
  | sweepRetake => exact endsCanonical_execSweepRetake h
  | imageLoadDone => exact endsCanonical_execImageLoadDone h
  | preloadReloadDone => exact endsCanonical_execPreloadReloadDone h
  | powerOn b => exact endsCanonical_next (canonical_fullReset _ _ _)
  | resetAssert => exact endsCanonical_execResetAssert h
  | resetRelease => exact endsCanonical_next h
  | batchOpen => exact endsCanonical_atCommandRegister keepsCanonical_batchOpen h
  | batchLoad => exact endsCanonical_atCommandRegister keepsCanonical_batchLoad h
  | batchCommit => exact endsCanonical_atCommandRegister keepsCanonical_batchCommit h
  | batchDiscard => exact endsCanonical_atCommandRegister keepsCanonical_batchDiscard h
  | freezeGroup => exact endsCanonical_atCommandRegister keepsCanonical_freezeGroup h
  | thawGroup => exact endsCanonical_atCommandRegister keepsCanonical_thawGroup h
  | freezeAll => exact endsCanonical_atCommandRegister keepsCanonical_freezeAll h
  | freezeRange => exact endsCanonical_atCommandRegister keepsCanonical_freezeRange h
  | domainSweep => exact endsCanonical_atCommandRegister keepsCanonical_domainSweep h
  | scrub => exact endsCanonical_atCommandRegister keepsCanonical_scrub h
  | sweepSuspend => exact endsCanonical_atCommandRegister keepsCanonical_sweepSuspend h
  | sweepResume => exact endsCanonical_atCommandRegister keepsCanonical_sweepResume h
  | sweepCancel => exact endsCanonical_atCommandRegister keepsCanonical_sweepCancel h
  | forceDrain => exact endsCanonical_atCommandRegister keepsCanonical_forceDrain h
  | domainSet => exact endsCanonical_atCommandRegister keepsCanonical_domainSet h
  | requesterSet => exact endsCanonical_atCommandRegister keepsCanonical_requesterSet h
  | requesterReset => exact endsCanonical_atCommandRegister keepsCanonical_requesterReset h
  | clearErrors => exact endsCanonical_atCommandRegister keepsCanonical_clearErrors h
  | tableReset => exact endsCanonical_atCommandRegister keepsCanonical_tableReset h
  | readEntry => exact endsCanonical_atCommandRegister keepsCanonical_readEntryQuery h
  | readClaim => exact endsCanonical_atCommandRegister keepsCanonical_readClaimQuery h
  | readPending => exact endsCanonical_atCommandRegister keepsCanonical_readPendingQuery h
  | readDrain => exact endsCanonical_atCommandRegister keepsCanonical_readDrainQuery h
  | readRequester => exact endsCanonical_atCommandRegister keepsCanonical_readRequesterQuery h
  | readSweepResult => exact endsCanonical_atCommandRegister keepsCanonical_readSweepResultQuery h
  | readCommitResult => exact endsCanonical_atCommandRegister keepsCanonical_readCommitResultQuery h
  | fullReset => exact endsCanonical_execFullReset h
  | undefinedCommandCode c => exact endsCanonical_execUndefinedCommandCode h c
  | eventRegisterRead b => exact endsCanonical_execEventRegisterRead h b
  | alertAssertedClear v => exact endsCanonical_execAlertAssertedClear h v
  | overrideClear v => exact endsCanonical_execOverrideClear h v
  | overrideSet v => exact endsCanonical_execOverrideSet h v
  | singleByteSettingWrite v => exact endsCanonical_execSingleByteSettingWrite h v
  | settingLowerByteWrite v => exact endsCanonical_execSettingLowerByteWrite h v
  | settingHigherByteWrite v => exact endsCanonical_execSettingHigherByteWrite h v
  | multiByteCaptureRead b => exact endsCanonical_execMultiByteCaptureRead h b
  | pointerSet b v => exact endsCanonical_execPointerSet h b v
  | registerWrite b v => exact endsCanonical_execRegisterWrite h b v
  | storageDamage i e => exact endsCanonical_execStorageDamage h i e
  | transactionEnd x => exact endsCanonical_execTransactionEnd h x

/-- Settles O51: each command keeps the canonical form, and so does the time that passes on an empty queue. -/
theorem tableStaysCanonical : Obligations.TableStaysCanonical := by
  intro s t h hstep
  unfold step at hstep
  split at hstep
  · rename_i c rest _
    exact endsCanonical_exec c (s := { s with pending := rest }) h t hstep
  · unfold State.idle at hstep
    split at hstep
    · rename_i c _
      exact endsCanonical_exec c (s := { s with free := s.free + 1 }) h t hstep
    · exact endsCanonical_next (canonical_tick h) t hstep

end Sys2Proof.Machine
end

section
/-! SUPPORT. Storage damage, even parity and the read with the parity check (01 R15 to R20). -/

namespace Sys2Proof.Machine

/-! ### Storage damage (01 R20) -/

/-- Settles O50: damage is a store to one entry of the Grant Table, and a store touches no other entry. -/
theorem storageIsDamaged : Obligations.StorageIsDamaged := by
  intro i e s h
  exact ⟨s.putEntry i e, rfl, rfl, State.entry_putEntry_self h i e, fun _ hj => State.entry_putEntry_ne s e hj⟩

/-! ### Even parity and the read with the parity check (01 R15 to R18) -/

theorem oddOnes_snoopCode (x : Snoop) : oddOnes (BitVec.ofNat 1 (snoopCode x)) = decide (x = .direct) := by
  cases x <;> decide

theorem oddOnes_accessCode (x : Access) : oddOnes (BitVec.ofNat 1 (accessCode x)) = decide (x = .readWrite) := by
  cases x <;> decide

/-- The ones of a placement's 34 bits. -/
def placementOnes (p : Placement) : Nat :=
  (List.range 24).countP (fun k => p.frame.getLsbD k)
    + (if p.access = .readWrite then 1 else 0) + (if p.snoop = .direct then 1 else 0)
    + (List.range 8).countP (fun d => p.domains.getLsbD d)

/-- A sum is odd when exactly one of its terms is. -/
theorem decide_add_mod_two (m n : Nat) : decide ((m + n) % 2 = 1) = (decide (m % 2 = 1) ^^ decide (n % 2 = 1)) := by
  rw [Bool.eq_iff_iff, Bool.xor_iff_ne]
  simp only [decide_eq_true_eq, ne_eq, decide_eq_decide]
  omega

theorem decide_ite_mod_two (c : Prop) [Decidable c] : decide ((if c then 1 else 0) % 2 = 1) = decide c := by
  split <;> simp [*]

theorem oddOnes_placementBits (p : Placement) : oddOnes (placementBits p) = decide (placementOnes p % 2 = 1) := by
  unfold placementBits placementOnes
  rw [oddOnes_append, oddOnes_append, oddOnes_append, oddOnes_snoopCode, oddOnes_accessCode, oddOnes_count p.domains,
    oddOnes_count p.frame, decide_add_mod_two, decide_add_mod_two, decide_add_mod_two, decide_ite_mod_two,
    decide_ite_mod_two]
  simp only [Bool.xor_assoc, Bool.xor_comm, Bool.xor_left_comm]

/-- The state code of LIVE or REVOKING adds one 1 to the placement's. -/
theorem odd_codes {code : BitVec 2} (h : oddOnes code = true) (p : Placement) :
    (oddOnes code ^^ oddOnes (placementBits p)) = decide ((1 + placementOnes p) % 2 = 1) := by
  rw [decide_add_mod_two, h, oddOnes_placementBits]
  rfl

theorem evenParity_live (p : Placement) : evenParity (.live p) = decide ((1 + placementOnes p) % 2 = 1) :=
  odd_codes (code := 1#2) (by decide) p

theorem evenParity_revoking (p : Placement) : evenParity (.revoking p) = decide ((1 + placementOnes p) % 2 = 1) :=
  odd_codes (code := 2#2) (by decide) p

theorem hasDrain_iff (s : State) (i : EntryIx) : s.hasDrain i = true ↔ ∃ d ∈ s.drain, d.entry = i := by
  simp [State.hasDrain]

/-- The laws a read tests with the parity (01 R16): a LIVE entry has no drain item and some domain, a REVOKING one has its
item. -/
def BreaksLaw (c : Contents) (drains : Bool) : Prop :=
  (∃ p, c = .live p ∧ (drains = true ∨ p.domains = 0#8)) ∨ (∃ p, c = .revoking p ∧ ¬ drains = true)

theorem passesCheck_eq_false_iff (e : GrantEntry) (drains : Bool) (h : e.contents ≠ .poisoned) :
    passesCheck e drains = false ↔ e.parity ≠ evenParity e.contents ∨ BreaksLaw e.contents drains := by
  unfold passesCheck BreaksLaw
  cases hc : e.contents with
  | vacant => simp
  | live p => cases drains <;> simp [← imp_iff_not_or]
  | revoking p => cases drains <;> simp
  | poisoned => exact absurd hc h

theorem readFails_iff (s : State) (i : EntryIx) : s.readFails i = true ↔
    (s.entry i).contents ≠ .poisoned
      ∧ ((s.entry i).parity ≠ evenParity (s.entry i).contents ∨ BreaksLaw (s.entry i).contents (s.hasDrain i)) := by
  unfold State.readFails
  rw [Bool.and_eq_true, Bool.not_eq_true', bne_iff_ne]
  exact and_congr_right (passesCheck_eq_false_iff _ _)

/-- Settles O21, from the count of ones, the condition for a failing read, and what poisoning changes. -/
theorem parityCheckedRead : Obligations.ParityCheckedRead := by
  refine ⟨fun p => ⟨by decide, by decide, evenParity_live p, evenParity_revoking p⟩, fun f i s => ?_⟩
  refine ⟨?_, fun h => readEntry_of_passes h f, fun h => ?_⟩
  · simpa only [BreaksLaw, hasDrain_iff] using readFails_iff s i
  · rw [readEntry_of_fails h f]
    exact ⟨rfl, entry_poison s f i, fun _ hj => entry_poison_ne s f hj, rfl, rfl⟩

end Sys2Proof.Machine
end

section
/-! SUPPORT. What an application of a commit writes (06 R117 to R119). -/

namespace Sys2Proof.Machine

/-! ### One application of a commit (06 R117 to R119) -/

/-- The application of the next op, once every op is validated. -/
theorem exec_commitApplication {g : Group} {n k : Nat} {ops : List BatchOp} {copies : List ValidatedCopy} {t : Tally}
    {op : BatchOp} {c : ValidatedCopy} {s : State} (hs : s.batch.staging = .committing g n ops copies k t)
    (hlen : copies.length = ops.length) (hop : ops[k]? = some op) (hc : copies[k]? = some c) :
    exec .commitApplication s = .next ((s.applyOp op c).1.putStaging
      (.committing g n ops copies (k + 1) (tallied (s.applyOp op c).2 t))) := by
  show execCommitApplication s = _
  unfold execCommitApplication
  rw [hs]
  dsimp only
  rw [if_pos hlen, hop, hc]

theorem applyOp_install (i : EntryIx) (p : Placement) (bad : Bool) (c : ValidatedCopy) (s : State) :
    s.applyOp (.install i p bad) c =
      (s.putEntry i (rewriteEntry (s.entry i) (writeBase (s.entry i) c) (.live p) bad), .installed) := rfl

theorem applyOp_amend_live {i : EntryIx} {p : Placement} {c : ValidatedCopy} {s : State}
    (h : writeBase (s.entry i) c = .live p) (a : Option Access) (x : Option Snoop) (m : Option (BitVec 8)) (bad : Bool) :
    s.applyOp (.amend i a x m bad) c =
      (s.putEntry i (rewriteEntry (s.entry i) (.live p) (.live (amended p a x m)) bad), .amended) := by
  unfold State.applyOp
  simp only [opEntry, h]

/-- An AMEND passes over an entry that has been poisoned since its validation. -/
theorem applyOp_amend_poisoned {i : EntryIx} {c : ValidatedCopy} {s : State}
    (h : writeBase (s.entry i) c = .poisoned) (a : Option Access) (x : Option Snoop) (m : Option (BitVec 8)) (bad : Bool) :
    s.applyOp (.amend i a x m bad) c = (s, .passed) := by
  unfold State.applyOp
  simp only [opEntry, h]

theorem applyRevoke_unclaimed {i : EntryIx} {s : State} (h : (s.entry i).claimCount = 0) (base : Contents) :
    s.applyRevoke i base = (s.putEntry i (rewriteEntry (s.entry i) base .vacant false), .vacated) := by
  unfold State.applyRevoke
  exact if_pos (congrArg Fin.val h)

theorem applyRevoke_claimed {i : EntryIx} {s : State} (h : (s.entry i).claimCount ≠ 0) (hd : s.drain.length < 16)
    (base : Contents) :
    s.applyRevoke i base = ((s.putEntry i (rewriteEntry (s.entry i) base
      (.revoking (revokedPlacement base)) false)).addDrain i, .draining) := by
  unfold State.applyRevoke
  dsimp only
  rw [if_neg (Fin.val_ne_zero_iff.2 h), if_pos hd]

theorem applyOp_revoke (i : EntryIx) (c : ValidatedCopy) (s : State) :
    s.applyOp (.revoke i) c = s.applyRevoke i (writeBase (s.entry i) c) := rfl

/-- A drain keeps a LIVE entry's placement; a POISONED one takes R8's. -/
theorem revokedPlacement_writeBase {e : GrantEntry} {c : ValidatedCopy} {p : Placement}
    (h : writeBase e c = .live p ∨ (writeBase e c = .poisoned ∧ p = ⟨0#24, .readOnly, .snooped, 0#8⟩)) :
    revokedPlacement (writeBase e c) = p := by
  obtain h | ⟨h, hp⟩ := h
  · rw [h]
    rfl
  · rw [h, hp]
    rfl

/-- Settles O25, op by op. -/
theorem commitApplies : Obligations.CommitApplies := by
  intro g n k ops copies t op c s hs hlen hop hc
  have happly := exec_commitApplication hs hlen hop hc
  generalize hi : opEntry op = i
  refine ⟨?install, ?amend, ?pass, ?vacate, ?drain⟩
  case install =>
    rintro p bad rfl
    rw [happly, applyOp_install]
    rfl
  case amend =>
    rintro a x m bad p rfl hbase
    rw [happly, applyOp_amend_live hbase]
    dsimp only
    rw [hbase]
    rfl
  case pass =>
    rintro a x m bad rfl hbase
    rw [happly, applyOp_amend_poisoned hbase]
    rfl
  case vacate =>
    rintro rfl hcount
    rw [happly, applyOp_revoke, applyRevoke_unclaimed hcount]
    rfl
  case drain =>
    rintro p rfl hcount hfree hbase
    rw [happly, applyOp_revoke, applyRevoke_claimed hcount hfree, revokedPlacement_writeBase hbase]
    rfl

end Sys2Proof.Machine
end

section
/-! SUPPORT. A RESOLVE that reaches its entry, and its grant (03 R48 to R58). -/

namespace Sys2Proof.Machine

/-! ### A RESOLVE that reaches its entry (03 R48 to R54) -/

theorem standingDenial_of_admitted {s : State} {r : ReqId} (h : Admitted r s) : s.standingDenial r = none := by
  obtain ⟨henabled, hclearing⟩ := h
  simp [State.standingDenial, henabled, hclearing]

theorem inWindow_iff (s : State) (a : Address) : s.inWindow a = true ↔ InWindow a s := by
  rw [State.inWindow, Bool.and_eq_true, decide_eq_true_eq, decide_eq_true_eq]
  rfl

theorem pageOf_of_governs {s : State} {i : EntryIx} {a : Address} (h : Governs i a s) : s.pageOf a = i := by
  refine Fin.ext ?_
  show (a.toNat - s.store.base.toNat) / pageBytes s.store.pageSize % 4096 = i.val
  rw [← h, Nat.mod_eq_of_lt i.isLt]

theorem slotHolding_isReady_of_noStoredAnswer {s : State} {q : Request} (h : NoStoredAnswer q s) :
    s.slotHolding isReady q = none := by
  refine find_finRange_none.2 fun k => ?_
  by_cases hk : slotRequest s.queue[k] = some q
  · rw [h k hk, Bool.false_and]
  · rw [beq_eq_false_iff_ne.2 hk, Bool.and_false]

theorem resolveRequest_of_reachesEntry {q : Request} {i : EntryIx} {s : State} (h : ReachesEntry q i s) :
    s.resolveRequest q = s.entryTests q i := by
  obtain ⟨⟨_, hrunning⟩, hadmitted, hwindow, hgoverns, hnone, hlock⟩ := h
  unfold State.resolveRequest State.resolveInside
  simp only [State.starting, hrunning, bne_self_eq_false, Bool.false_eq_true, if_false,
    standingDenial_of_admitted hadmitted, (inWindow_iff s _).2 hwindow, if_true,
    slotHolding_isReady_of_noStoredAnswer hnone, pageOf_of_governs hgoverns, if_neg hlock]

theorem exec_resolve_of_reachesEntry {q : Request} {i : EntryIx} {s : State} (h : ReachesEntry q i s) :
    exec (resolveOf q) s =
      .next (settle s ((s.entryTests q i).1.deliver q.requester (s.entryTests q i).2)) := by
  have hport : s.portReady = true := beq_iff_eq.2 h.1.1
  show execResolve _ _ _ _ s = _
  unfold execResolve
  rw [if_pos hport]
  dsimp only
  rw [resolveRequest_of_reachesEntry h]

/-! ### The grant (03 R54 to R58) -/

/-- The translated address of a grant, and the grant itself (01 R4, 03 R46). -/
def grantOf (q : Request) (i : EntryIx) (p : Placement) (tag : Option Tag) (s : State) : Response :=
  ⟨.granted, some (p.snoop, s.translate p.frame q.address), some (s.entry i).generation, tag, some i⟩

section Live

variable {q : Request} {i : EntryIx} {p : Placement} {s : State} (hread : s.readFails i = false)
  (hlive : (s.entry i).contents = .live p) (hdomain : inSet (s.requester q.requester).domain p.domains = true)
  (haccess : ¬ (q.dir = .write ∧ p.access = .readOnly))

include hread hlive hdomain haccess

/-- The domain and access tests passed, a request without the claim flag is granted (03 R56, R58). -/
theorem entryTests_granted (hclaim : q.claim = false) : s.entryTests q i = (s, grantOf q i p none s) := by
  unfold State.entryTests grantOf
  simp only [readEntry_of_passes hread, hlive, hdomain, Bool.not_true, Bool.false_eq_true, if_false, if_neg haccess, hclaim]

theorem entryTests_claim (hclaim : q.claim = true) : s.entryTests q i = s.claimAndGrant q i p := by
  unfold State.entryTests
  simp only [readEntry_of_passes hread, hlive, hdomain, Bool.not_true, Bool.false_eq_true, if_false, if_neg haccess,
    hclaim, if_true]

end Live

theorem lowestFree_eq_some {s : State} {t : Tag} (ht : s.claims[t] = .free) (hmin : ∀ u : Tag, u < t → s.claims[u] ≠ .free) :
    s.lowestFree = some t :=
  find_finRange_some.2 ⟨beq_iff_eq.2 ht, fun u hu => beq_eq_false_iff_ne.2 (hmin u hu)⟩

theorem raised_of_succ {c n : Fin 65} (h : n.val = c.val + 1) (free : Nat) : raised c free = n := by
  have hlt : c.val < 64 := by omega
  unfold raised
  rw [dif_pos hlt]
  exact Fin.ext h.symm

/-- Below 64 a raised count takes no free value (04 R68). -/
theorem raiseCount_of_succ {s : State} {i : EntryIx} {n : Fin 65} (h : n.val = (s.entry i).claimCount.val + 1) :
    s.raiseCount i = s.putEntry i { s.entry i with claimCount := n } := by
  have hlt : (s.entry i).claimCount.val < 64 := by omega
  unfold State.raiseCount
  simp only [if_pos hlt, raised_of_succ h]

/-- The lowest FREE tag is taken (03 R57, 04 R68). -/
theorem claimAndGrant_of_free {q : Request} {i : EntryIx} {p : Placement} {s : State} {t : Tag} {n : Fin 65}
    (hlimit : s.holding q.requester < (s.requester q.requester).limit.val) (ht : s.claims[t] = .free)
    (hmin : ∀ u : Tag, u < t → s.claims[u] ≠ .free) (hn : n.val = (s.entry i).claimCount.val + 1) :
    s.claimAndGrant q i p =
      ((s.putClaim t (.active ⟨q.requester, i, (s.entry i).generation, q.dir⟩)).putEntry i
        { s.entry i with claimCount := n }, grantOf q i p (some t) s) := by
  unfold State.claimAndGrant grantOf
  simp only [if_neg (Nat.not_le.2 hlimit), lowestFree_eq_some ht hmin]
  rw [raiseCount_of_succ (s := s.putClaim t _) hn]
  rfl

/-- A claim count that rises brings about no retake: nothing of R154 happens. -/
theorem settle_of_raised {s t : State} (hd : t.drain = s.drain) (i : EntryIx)
    (hcount : (t.entry i).claimCount.val ≠ 0) (hcontents : (t.entry i).contents = (s.entry i).contents)
    (hother : ∀ j, j ≠ i → t.entry j = s.entry j) : settle s t = t := by
  unfold settle
  split
  · rename_i w _
    refine if_neg ?_
    unfold retakeDue
    by_cases hw : w.cursor = i
    · simp [hd, hw, hcount, hcontents]
    · simp [hd, hother _ hw]
  · rfl

/-- Settles O5: without the claim flag the grant changes the port alone; with it the lowest FREE record and the claim count
besides, and neither brings about a retake. -/
theorem resolveGranted : Obligations.ResolveGranted := by
  intro q i p s hreaches hread hlive hdomain haccess translated granted
  have hexec := exec_resolve_of_reachesEntry hreaches
  refine ⟨fun hclaim => ?_, fun t n hclaim hlimit ht hmin hn => ?_⟩
  · rw [hexec, entryTests_granted hread hlive hdomain haccess hclaim]
    exact congrArg _ (settle_of_same le_rfl fun _ _ => rfl)
  · rw [hexec, entryTests_claim hread hlive hdomain haccess hclaim, claimAndGrant_of_free hlimit ht hmin hn]
    have hput : (s.putEntry i { s.entry i with claimCount := n }).entry i = { s.entry i with claimCount := n } := by
      refine State.entry_putEntry_listed s i fun hcleared => ?_
      have hvacant : (s.entry i).contents = .vacant := congrArg GrantEntry.contents hcleared
      rw [hlive] at hvacant
      cases hvacant
    refine congrArg _ (settle_of_raised rfl i ?_ ?_ fun j hj => ?_)
    · show ((s.putEntry i { s.entry i with claimCount := n }).entry i).claimCount.val ≠ 0
      rw [hput]
      show n.val ≠ 0
      omega
    · show ((s.putEntry i { s.entry i with claimCount := n }).entry i).contents = _
      rw [hput]
    · exact State.entry_putEntry_ne s _ hj

end Sys2Proof.Machine
end

section
/-! SUPPORT. What the Control section's pairs give and what is set from them (01 R1, R2, 12 R184). -/

namespace Sys2Proof.Machine

/-! ### Skipped items (12 R184 to R186) -/

/-- What the report of skipped items leaves, for any number of them. -/
theorem reportSkipped_eq (x : ImageItem) (n : Nat) (f : ImageFlags → ImageFlags) (s : State) :
    s.reportSkipped x n f = { s with
      loader := { s.loader with flags := if n = 0 then s.loader.flags else f s.loader.flags }
      errors := if n = 0 then s.errors else recordError s.settings (.image x (some (min n 255))) s.errors } := by
  by_cases h : n = 0
  · simp only [h, reportSkipped_none, if_true]
  · rw [reportSkipped_some x h f s, if_neg h, if_neg h]

/-! ### The window geometry (01 R1, R2) -/

theorem pageSizeOf_eq (code : Nat) : pageSizeOf code = (if code = 1 then .k64 else .k4, decide (1 < code)) := by
  unfold pageSizeOf
  by_cases h0 : code = 0
  · simp [h0]
  · by_cases h1 : code = 1
    · simp [h1]
    · have hlt : 1 < code := by omega
      simp [h0, h1, hlt]

theorem effectiveBase_eq (p : PageSize) (base : Nat) :
    effectiveBase p base = base - base % (4096 * pageBytes p) := Nat.div_mul_self_eq_mod_sub_self

/-- The base changes when bits below the window size were set. -/
theorem effectiveBase_ne_iff (p : PageSize) (base : Nat) :
    effectiveBase p base ≠ base ↔ base % (4096 * pageBytes p) ≠ 0 := by
  have hle := Nat.mod_le base (4096 * pageBytes p)
  rw [effectiveBase_eq]
  omega

theorem controlValues_base (c : ControlValues) :
    c.base = c.baseHigh * 2 ^ 32 + c.baseMiddle * 2 ^ 16 + c.baseLow := by
  unfold ControlValues.base
  omega

/-! ### The values of the Control section are taken (12 R184) -/

/-- CONTROL_FALLBACK is set by a pair, by the page-size code or by the base. -/
def controlFallsBack (c : ControlValues) : Bool :=
  c.fallback || (pageSizeOf c.pageCode).2 || decide (effectiveBase (pageSizeOf c.pageCode).1 c.base ≠ c.base)

/-- Settings, miss policies, window geometry and CONTROL_FALLBACK, before skipped pairs are reported. -/
def State.setControl (c : ControlValues) (s : State) : State :=
  { s with
    settings := { c.settings with shadowInt := s.settings.shadowInt, shadowAlert := s.settings.shadowAlert }
    store := { s.store with
      pageSize := (pageSizeOf c.pageCode).1
      base := BitVec.ofNat 40 (effectiveBase (pageSizeOf c.pageCode).1 c.base) }
    requesters := { s.requesters with
      domains := tabulate (fun d => { s.requesters.domains[d] with pass := c.pass.getLsbD d.val }) }
    loader := { s.loader with flags := { s.loader.flags with
      controlFallback := s.loader.flags.controlFallback || controlFallsBack c } } }

theorem applyControl_eq (c : ControlValues) (s : State) : s.applyControl c =
    (s.setControl c).reportSkipped .control c.skipped (fun f => { f with controlSkipped := true }) := rfl

theorem controlFallsBack_iff (c : ControlValues) : controlFallsBack c = true ↔
    c.fallback = true ∨ 1 < c.pageCode ∨ c.base % (4096 * pageBytes (pageSizeOf c.pageCode).1) ≠ 0 := by
  unfold controlFallsBack
  rw [Bool.or_eq_true, Bool.or_eq_true, decide_eq_true_eq, effectiveBase_ne_iff, or_assoc, pageSizeOf_eq,
    decide_eq_true_eq]

theorem applyControl_loader (c : ControlValues) (s : State) :
    (s.applyControl c).loader = { s.loader with flags := { s.loader.flags with
      controlFallback := s.loader.flags.controlFallback || controlFallsBack c
      controlSkipped := s.loader.flags.controlSkipped || decide (c.skipped ≠ 0) } } := by
  rw [applyControl_eq, reportSkipped_eq]
  by_cases h : c.skipped = 0
  · simp [h, State.setControl]
  · simp [h, State.setControl]

theorem setControl_domainRecord (c : ControlValues) (s : State) (d : Domain) :
    (s.setControl c).domainRecord d = ⟨c.pass.getLsbD d.val, (s.domainRecord d).closing⟩ :=
  tabulate_get _ d.val d.isLt

/-! ### One pair (12 R184) -/

section Pair

variable {α : Type} {value : Option α} {x : α}

theorem ControlValues.take_of_some (c : ControlValues) (h : value = some x) (default : α) (put : ControlValues → α → ControlValues) :
    c.take value default put = put c x := by
  rw [h]
  rfl

theorem ControlValues.take_of_none (c : ControlValues) (h : value = none) (default : α) (put : ControlValues → α → ControlValues) :
    c.take value default put = { put c default with fallback := true } := by
  rw [h]
  rfl

end Pair

theorem upTo_of_lt {top v : Nat} (h : v < top + 1) : upTo top v = some v := if_pos (Nat.lt_succ_iff.1 h)

theorem upTo_of_ge {top v : Nat} (h : top + 1 ≤ v) : upTo top v = none := if_neg (Nat.not_le.2 h)

theorem fieldOfCode_of_lt {w v : Nat} (h : v < 2 ^ w) : fieldOfCode w v = some (BitVec.ofNat w v) := if_pos h

theorem fieldOfCode_of_ge {w v : Nat} (h : 2 ^ w ≤ v) : fieldOfCode w v = none := if_neg (Nat.not_lt.2 h)

theorem snoopOfCode_of_gt {v : Nat} (h : 1 < v) : snoopOfCode v = none := by
  match v, h with
  | n + 2, _ => rfl

theorem discardTimeOfCode_of_gt {v : Nat} (h : 3 < v) : discardTimeOfCode v = none := by
  match v, h with
  | n + 4, _ => rfl

theorem drainTimeOfCode_of_gt {v : Nat} (h : 4 < v) : drainTimeOfCode v = none := by
  match v, h with
  | n + 5, _ => rfl

theorem quarantineTimeOfCode_of_gt {v : Nat} (h : 3 < v) : quarantineTimeOfCode v = none := by
  match v, h with
  | n + 4, _ => rfl

theorem controlPair_unknown {id : Nat} (h : id ∉ [0x0001, 0x0002, 0x0003, 0x0004, 0x0010, 0x0011, 0x0012, 0x0013, 0x0014,
    0x0015, 0x0016, 0x0017, 0x0018, 0x0019]) (v : Nat) (c : ControlValues) :
    controlPair id v c = { c with skipped := c.skipped + 1 } := by
  simp only [List.mem_cons, List.not_mem_nil, or_false, not_or] at h
  unfold controlPair
  simp only [h, if_false]

/-! Which value each pair takes, its default, and where it puts them. -/

theorem controlPair_baseHigh (v : Nat) (c : ControlValues) :
    controlPair 0x0002 v c = c.take (upTo 255 v) 0 (fun c x => { c with baseHigh := x }) := rfl

theorem controlPair_snoop (v : Nat) (c : ControlValues) : controlPair 0x0010 v c =
    c.take (snoopOfCode v) .snooped (fun c x => { c with settings := { c.settings with snoop := x } }) := rfl

theorem controlPair_discardTime (v : Nat) (c : ControlValues) : controlPair 0x0011 v c =
    c.take (discardTimeOfCode v) .us256 (fun c x => { c with settings := { c.settings with discardTime := x } }) := rfl

theorem controlPair_drainTime (v : Nat) (c : ControlValues) : controlPair 0x0012 v c =
    c.take (drainTimeOfCode v) .ms16 (fun c x => { c with settings := { c.settings with drainTime := x } }) := rfl

theorem controlPair_quarantineTime (v : Nat) (c : ControlValues) : controlPair 0x0013 v c =
    c.take (quarantineTimeOfCode v) .ms100 (fun c x => { c with settings := { c.settings with quarantineTime := x } }) := rfl

theorem controlPair_threshold (v : Nat) (c : ControlValues) : controlPair 0x0014 v c =
    c.take (fieldOfCode 4 v) 8#4 (fun c x => { c with settings := { c.settings with threshold := x } }) := rfl

theorem controlPair_masks (v : Nat) (c : ControlValues) : controlPair 0x0015 v c =
    c.take (fieldOfCode 7 v) 0#7 (fun c x => { c with settings := { c.settings with masks := x } }) := rfl

theorem controlPair_routeInt (v : Nat) (c : ControlValues) : controlPair 0x0016 v c =
    c.take (fieldOfCode 9 v) 0#9 (fun c x => { c with settings := { c.settings with routeInt := x } }) := rfl

theorem controlPair_routeAlert (v : Nat) (c : ControlValues) : controlPair 0x0017 v c =
    c.take (fieldOfCode 9 v) 0#9 (fun c x => { c with settings := { c.settings with routeAlert := x } }) := rfl

theorem controlPair_enables (v : Nat) (c : ControlValues) : controlPair 0x0018 v c =
    c.take (fieldOfCode 5 v) 0#5 (fun c x => { c with settings := { c.settings with enables := x } }) := rfl

theorem controlPair_pass (v : Nat) (c : ControlValues) :
    controlPair 0x0019 v c = c.take (fieldOfCode 8 v) 0#8 (fun c x => { c with pass := x }) := rfl

end Sys2Proof.Machine
end

section
/-! SUPPORT. What the records of the Requester and Preload sections give, and what the four sections set (12 R185, R186,
08 R139). -/

namespace Sys2Proof.Machine

/-! ### The halves of a word -/

theorem word_high (a : ImageWord) : (a.extractLsb' 8 8).toNat = a.toNat / 256 := by
  rw [BitVec.extractLsb'_toNat, Nat.shiftRight_eq_div_pow, Nat.mod_eq_of_lt]
  omega

theorem word_low (a : ImageWord) : (a.setWidth 8).toNat = a.toNat % 256 := BitVec.toNat_setWidth 8 a

/-! ### One requester record (12 R185) -/

/-- Every field of the record is in range. -/
def requesterInRange (a b : ImageWord) : Prop :=
  a.toNat / 256 < 16 ∧ a.toNat % 256 < 2 ∧ b.toNat / 256 < 8 ∧ b.toNat % 256 < 65

theorem low_bit_of_lt_two {a : ImageWord} (h : a.toNat % 256 < 2) : (a.toNat % 256 == 1) = a.getLsbD 0 := by
  have hodd : a.getLsbD 0 = decide (a.toNat % 2 = 1) := by simp [BitVec.getLsbD, Nat.testBit_zero]
  rw [hodd, Bool.eq_iff_iff, beq_iff_eq, decide_eq_true_eq]
  omega

theorem requesterRecord_some {a b : ImageWord} {r : ReqId} {d : Domain} {l : Fin 65} (h : a.toNat % 256 < 2)
    (hr : r.val = a.toNat / 256) (hd : d.val = b.toNat / 256) (hl : l.val = b.toNat % 256) :
    requesterRecord a b = some (r, ⟨a.getLsbD 0, d, l⟩) := by
  unfold requesterRecord
  rw [indexBelow_of_eq r hr, indexBelow_of_eq d hd, indexBelow_of_eq l hl, ← low_bit_of_lt_two h]
  exact if_pos (Nat.lt_succ_iff.1 h)

theorem requesterInRange_of_some {a b : ImageWord} {x : ReqId × RequesterDefault} (h : requesterRecord a b = some x) :
    requesterInRange a b := by
  unfold requesterRecord at h
  split at h
  · rename_i r d l hr hd hl
    have hr := indexBelow_some hr
    have hd := indexBelow_some hd
    have hl := indexBelow_some hl
    have hlow : a.toNat % 256 ≤ 1 := by
      by_contra hlow
      rw [if_neg hlow] at h
      cases h
    exact ⟨by omega, by omega, by omega, by omega⟩
  · cases h

/-- A record in range, with room and an id no earlier one named, gives its default (log 15). -/
theorem takeRequester_taken {a b : ImageWord} {r : ReqId} {d : RequesterDefault} {v : RequesterValues}
    (h : requesterRecord a b = some (r, d)) (hnamed : a.toNat / 256 ∉ v.named) (htaken : v.taken < 16) :
    takeRequester a b v = ⟨v.defaults.set r d, v.taken + 1, a.toNat / 256 :: v.named, v.skipped⟩ := by
  have hcontains : v.named.contains (a.toNat / 256) = false := by simpa using hnamed
  unfold takeRequester
  simp only [h]
  rw [if_pos ⟨htaken, hcontains⟩]

theorem takeRequester_skipped {a b : ImageWord} {v : RequesterValues}
    (h : ¬ (requesterInRange a b ∧ a.toNat / 256 ∉ v.named ∧ v.taken < 16)) :
    takeRequester a b v = ⟨v.defaults, v.taken + 1, a.toNat / 256 :: v.named, v.skipped + 1⟩ := by
  unfold takeRequester
  dsimp only
  split
  · rename_i hrecord
    rw [if_neg]
    rintro ⟨htaken, hcontains⟩
    exact h ⟨requesterInRange_of_some hrecord, by simpa using hcontains, htaken⟩
  · rfl

/-! ### The Requester Defaults are taken (12 R185, 02 R23) -/

/-- The defaults and the live records, before skipped records are reported. -/
def State.setRequesters (v : RequesterValues) (s : State) : State :=
  { s with requesters := { s.requesters with
    defaults := v.defaults, live := tabulate (fun r => liveFrom v.defaults[r]) } }

theorem applyRequesters_eq (v : RequesterValues) (s : State) : s.applyRequesters v =
    (s.setRequesters v).reportSkipped .requester v.skipped (fun f => { f with requesterSkipped := true }) := rfl

theorem setRequesters_requester (v : RequesterValues) (s : State) (r : ReqId) :
    (s.setRequesters v).requester r = liveFrom v.defaults[r] := tabulate_get _ r.val r.isLt

/-! ### One preload record (12 R186) -/

/-- The placement a preload record's words spell. -/
def preloadPlacement (a b c : ImageWord) : Placement :=
  ⟨b ++ c.extractLsb' 8 8, if a.getLsbD 15 then .readWrite else .readOnly, if a.getLsbD 14 then .direct else .snooped,
    c.setWidth 8⟩

theorem preload_frame (b c : ImageWord) : BitVec.ofNat 24 (b.toNat * 256 + c.toNat / 256) = b ++ c.extractLsb' 8 8 := by
  have hlow : c.toNat / 256 < 2 ^ 8 := by omega
  refine BitVec.eq_of_toNat_eq ?_
  rw [BitVec.toNat_append, word_high, ← Nat.shiftLeft_add_eq_or_of_lt hlow, Nat.shiftLeft_eq, BitVec.toNat_ofNat,
    Nat.mod_eq_of_lt (by omega)]

theorem preload_index {a : ImageWord} {i : EntryIx} (h : i.val = (a.setWidth 12).toNat) :
    entryIxOf (a.toNat % 4096) = i := by
  refine Fin.ext ?_
  show a.toNat % 4096 % 4096 = i.val
  rw [h, BitVec.toNat_setWidth, Nat.mod_mod]

/-- A reserved bit set or an empty domain set: the record is malformed. -/
def preloadMalformed (a c : ImageWord) : Prop := a.getLsbD 13 = true ∨ a.getLsbD 12 = true ∨ c.setWidth 8 = 0#8

theorem preloadRecord_none {a c : ImageWord} (h : preloadMalformed a c) (b : ImageWord) : preloadRecord a b c = none := by
  refine if_pos ?_
  rwa [Bool.or_eq_true, Bool.or_eq_true, beq_iff_eq, or_assoc]

theorem preloadRecord_some {a c : ImageWord} (h : ¬ preloadMalformed a c) {i : EntryIx}
    (hi : i.val = (a.setWidth 12).toNat) (b : ImageWord) :
    preloadRecord a b c = some (i, preloadPlacement a b c) := by
  unfold preloadRecord
  rw [if_neg, preload_index hi, preload_frame]
  · rfl
  · rwa [Bool.or_eq_true, Bool.or_eq_true, beq_iff_eq, or_assoc]

section Record

variable {a b c : ImageWord} {r : PreloadRun} {i : EntryIx}

theorem takePreload_skips (hi : i.val = (a.setWidth 12).toNat) (h : preloadMalformed a c ∨ i.val ∈ r.installed) :
    takePreload a b c r = { r with skipped := r.skipped + 1 } := by
  unfold takePreload
  by_cases hmalformed : preloadMalformed a c
  · rw [preloadRecord_none hmalformed]
  · rw [preloadRecord_some hmalformed hi]
    exact if_pos (List.contains_iff_mem.2 (h.resolve_left hmalformed))

theorem takePreload_installs (hi : i.val = (a.setWidth 12).toNat) (h : ¬ (preloadMalformed a c ∨ i.val ∈ r.installed)) :
    takePreload a b c r = ⟨r.state.putEntry i (replaceEntry (r.state.entry i) (.live (preloadPlacement a b c))),
      i.val :: r.installed, r.skipped⟩ := by
  obtain ⟨hmalformed, hmem⟩ := not_or.1 h
  unfold takePreload
  rw [preloadRecord_some hmalformed hi]
  exact if_neg fun hcontains => hmem (List.contains_iff_mem.1 hcontains)

end Record

/-! ### Where the content of a section comes from (12 R183 to R186) -/

section Places

variable {s : State} {o n : Nat}

theorem loadControl_absent (h : sectionAt s.nvm 2 = .absent) :
    s.loadControl = (s.applyControl ControlValues.start).putWork .requester := by
  unfold State.loadControl
  rw [h]

theorem loadControl_misplaced (h : sectionAt s.nvm 2 = .misplaced) :
    s.loadControl = (s.applyControl { ControlValues.start with skipped := 1 }).putWork .requester := by
  unfold State.loadControl
  rw [h]

theorem loadControl_placed (h : sectionAt s.nvm 2 = .placed o n) :
    s.loadControl = (s.applyControl (controlPairs (nvmWords s.nvm (o + 1) n) ControlValues.start)).putWork .requester := by
  unfold State.loadControl
  rw [h]
  rfl

theorem loadRequesters_absent (h : sectionAt s.nvm 3 = .absent) :
    s.loadRequesters = (s.applyRequesters RequesterValues.start).putWork .preloadStart := by
  unfold State.loadRequesters
  rw [h]

theorem loadRequesters_misplaced (h : sectionAt s.nvm 3 = .misplaced) :
    s.loadRequesters = (s.applyRequesters { RequesterValues.start with skipped := 1 }).putWork .preloadStart := by
  unfold State.loadRequesters
  rw [h]

theorem loadRequesters_placed (h : sectionAt s.nvm 3 = .placed o n) :
    s.loadRequesters = (s.applyRequesters (requesterRecords (nvmWords s.nvm (o + 1) n) RequesterValues.start)).putWork .preloadStart := by
  unfold State.loadRequesters
  rw [h]
  rfl

theorem loadPreloadStart_absent (h : sectionAt s.nvm 4 = .absent) : s.loadPreloadStart = s.putWork (.preload [] [] 0) := by
  unfold State.loadPreloadStart
  rw [h]

theorem loadPreloadStart_misplaced (h : sectionAt s.nvm 4 = .misplaced) :
    s.loadPreloadStart = s.putWork (.preload [] [] 1) := by
  unfold State.loadPreloadStart
  rw [h]

theorem loadPreloadStart_placed (h : sectionAt s.nvm 4 = .placed o n) :
    s.loadPreloadStart = { s with
      loader := { s.loader with work := .preload (nvmWords s.nvm (o + 1) n) [] 0, capture := some ⟨o, n⟩ } } := by
  unfold State.loadPreloadStart
  rw [h]
  rfl

theorem loadFreeze_absent (h : sectionAt s.nvm 5 = .absent) : s.loadFreeze = s.putWork .finish := by
  unfold State.loadFreeze
  rw [h]

theorem loadFreeze_misplaced (h : sectionAt s.nvm 5 = .misplaced) : s.loadFreeze = s.skipFreeze.putWork .finish := by
  unfold State.loadFreeze
  rw [h]

end Places

/-! ### What is left of the Preload section (12 R186) -/

theorem loadFromPreload_of_loading {s : State} {words : List ImageWord} {installed : List Nat} {skipped : Nat}
    (hwork : s.loader.work = .preload words installed skipped) (hphase : s.loader.phase = .loading) :
    s.loadFromPreload = ((preloadRecords words ⟨s, installed, skipped⟩).state.reportSkipped .preload
      (preloadRecords words ⟨s, installed, skipped⟩).skipped (fun f => { f with preloadSkipped := true })).putWork .freeze := by
  unfold State.loadFromPreload
  rw [hwork]
  show State.endPreload _ _ = _
  unfold State.endPreload
  rw [preloadRecords_loader]
  simp only [hphase, reduceCtorEq, if_false]

/-! ### The Freeze section (08 R139) -/

theorem skipFreeze_eq (s : State) : s.skipFreeze = { s with
    freeze := { s.freeze with rangeUsed := true }
    loader := { s.loader with flags := { s.loader.flags with freezeSkipped := true } }
    errors := recordError s.settings (.image .freeze (some 1)) s.errors } :=
  reportSkipped_some _ one_ne_zero _ _

theorem rangeMarks_bit (l u g : Group) : (rangeMarks l u).getLsbD g.val = decide (l ≤ g ∧ g ≤ u) := by
  unfold rangeMarks
  rw [BitVec.getLsbD_and, BitVec.getLsbD_shiftLeft, BitVec.getLsbD_ushiftRight, BitVec.getLsbD_allOnes,
    BitVec.getLsbD_allOnes, Bool.eq_iff_iff]
  simp only [Bool.and_eq_true, Bool.not_eq_true', decide_eq_true_eq, decide_eq_false_iff_not, Fin.le_def]
  omega

theorem rangeOf_some {lower upper : Nat} {l u : Group} (hl : l.val = lower) (hu : u.val = upper) (h : l ≤ u) :
    rangeOf lower upper = some ⟨l, u⟩ := by
  unfold rangeOf
  rw [indexBelow_of_eq l hl, indexBelow_of_eq u hu]
  exact if_pos h

theorem rangeOf_none {lower upper : Nat} (h : 127 < upper ∨ upper < lower) : rangeOf lower upper = none := by
  unfold rangeOf
  split
  · rename_i l u hl hu
    have hl := indexBelow_some hl
    have hu := indexBelow_some hu
    refine if_neg fun hle => ?_
    rw [Fin.le_def] at hle
    omega
  · rfl

section Freeze

variable {s : State} {o n : Nat} (hs : sectionAt s.nvm 5 = .placed o n)

include hs

theorem loadFreeze_unapplied (h : n ≠ 2 ∨ 127 < nvmNat s.nvm (o + 2) ∨ nvmNat s.nvm (o + 2) < nvmNat s.nvm (o + 1)) :
    s.loadFreeze = s.skipFreeze.putWork .finish := by
  unfold State.loadFreeze
  rw [hs]
  dsimp only
  by_cases hn : n = 2
  · rw [if_pos hn, rangeOf_none (h.resolve_left (not_not.2 hn))]
  · rw [if_neg hn]

theorem loadFreeze_applied {l u : Group} (hn : n = 2) (hl : l.val = nvmNat s.nvm (o + 1)) (hu : u.val = nvmNat s.nvm (o + 2))
    (h : l ≤ u) : s.loadFreeze = State.putWork .finish { s with freeze := setRange l u s.freeze } := by
  unfold State.loadFreeze
  rw [hs]
  dsimp only
  rw [if_pos hn, rangeOf_some hl hu h]

end Freeze

end Sys2Proof.Machine
end

section
/-! SUPPORT. The four sections of the image, clause by clause (12 R184 to R186, 08 R139). -/

namespace Sys2Proof.Machine

/-- Settles O32: Control values taken, Control pairs, Requester records and their effect, Preload records, and where each
section's content comes from. -/
theorem imageSections : Obligations.ImageSections := by
  refine ⟨fun c s => ?control, fun v c => ?pairs, fun a b v => ?record, fun v s => ?requesters,
    fun a b c i s installed skipped => ?preload, fun s => ?sections⟩
  case control =>
    intro u page base size
    have hu : u = _ := (applyControl_eq c s).trans (reportSkipped_eq _ _ _ _)
    have hloader : u.loader = _ := applyControl_loader c s
    have hpage : (pageSizeOf c.pageCode).1 = page := by rw [pageSizeOf_eq]
    have hbase : c.base = base := controlValues_base c
    refine ⟨?_, ?_, ?_, ?_, ?_, fun d => ?_, ?_, ?_, fun h => ?_, fun h => ?_, ?_⟩
    case refine_3 => rw [hloader, Bool.or_eq_true, controlFallsBack_iff, hpage, hbase]
    case refine_8 => rw [hloader]
    all_goals rw [hu]
    · exact hpage
    · show BitVec.ofNat 40 (effectiveBase (pageSizeOf c.pageCode).1 c.base) = _
      rw [hpage, hbase, effectiveBase_eq]
    · rfl
    · rfl
    · exact setControl_domainRecord c s d
    · rfl
    · exact if_pos h
    · exact if_neg h
    · rfl
  case pairs =>
    intro set default
    exact ⟨rfl,
      fun h => (controlPair_baseHigh v c).trans (ControlValues.take_of_some c (upTo_of_lt h) _ _),
      fun h => (controlPair_baseHigh v c).trans (ControlValues.take_of_none c (upTo_of_ge h) _ _),
      rfl,
      rfl,
      fun _ h => (controlPair_snoop v c).trans (ControlValues.take_of_some c h _ _),
      fun h => (controlPair_snoop v c).trans (ControlValues.take_of_none c (snoopOfCode_of_gt h) _ _),
      fun _ h => (controlPair_discardTime v c).trans (ControlValues.take_of_some c h _ _),
      fun h => (controlPair_discardTime v c).trans (ControlValues.take_of_none c (discardTimeOfCode_of_gt h) _ _),
      fun _ h => (controlPair_drainTime v c).trans (ControlValues.take_of_some c h _ _),
      fun h => (controlPair_drainTime v c).trans (ControlValues.take_of_none c (drainTimeOfCode_of_gt h) _ _),
      fun _ h => (controlPair_quarantineTime v c).trans (ControlValues.take_of_some c h _ _),
      fun h => (controlPair_quarantineTime v c).trans (ControlValues.take_of_none c (quarantineTimeOfCode_of_gt h) _ _),
      fun h => (controlPair_threshold v c).trans (ControlValues.take_of_some c (fieldOfCode_of_lt h) _ _),
      fun h => (controlPair_threshold v c).trans (ControlValues.take_of_none c (fieldOfCode_of_ge h) _ _),
      fun h => (controlPair_masks v c).trans (ControlValues.take_of_some c (fieldOfCode_of_lt h) _ _),
      fun h => (controlPair_masks v c).trans (ControlValues.take_of_none c (fieldOfCode_of_ge h) _ _),
      fun h => (controlPair_routeInt v c).trans (ControlValues.take_of_some c (fieldOfCode_of_lt h) _ _),
      fun h => (controlPair_routeInt v c).trans (ControlValues.take_of_none c (fieldOfCode_of_ge h) _ _),
      fun h => (controlPair_routeAlert v c).trans (ControlValues.take_of_some c (fieldOfCode_of_lt h) _ _),
      fun h => (controlPair_routeAlert v c).trans (ControlValues.take_of_none c (fieldOfCode_of_ge h) _ _),
      fun h => (controlPair_enables v c).trans (ControlValues.take_of_some c (fieldOfCode_of_lt h) _ _),
      fun h => (controlPair_enables v c).trans (ControlValues.take_of_none c (fieldOfCode_of_ge h) _ _),
      fun h => (controlPair_pass v c).trans (ControlValues.take_of_some c (fieldOfCode_of_lt h) _ _),
      fun h => (controlPair_pass v c).trans (ControlValues.take_of_none c (fieldOfCode_of_ge h) _ _),
      fun _ h => controlPair_unknown h v c,
      rfl,
      fun _ => rfl,
      fun _ _ _ => rfl⟩
  case record =>
    intro id accepted
    have hid : a.toNat / 256 = id := (word_high a).symm
    refine ⟨fun h => ?_, fun r d l h hr hd hl => ?_, rfl, rfl, fun _ => rfl⟩
    · rw [← hid]
      refine takeRequester_skipped fun hok => h ?_
      obtain ⟨⟨hr, hx, hd, hl⟩, hnamed, htaken⟩ := hok
      rw [hid] at hr hnamed
      exact ⟨hr, word_low a ▸ hx, word_high b ▸ hd, word_low b ▸ hl, hnamed, htaken⟩
    · obtain ⟨_, hx, _, _, hnamed, htaken⟩ := h
      rw [← hid] at hr hnamed ⊢
      rw [word_low] at hx hl
      rw [word_high] at hd
      exact takeRequester_taken (requesterRecord_some hx hr hd hl) hnamed htaken
  case requesters =>
    intro u
    have hu : u = _ := (applyRequesters_eq v s).trans (reportSkipped_eq _ _ _ _)
    rw [hu]
    refine ⟨rfl, rfl, fun r => setRequesters_requester v s r, fun h => ?_, fun h => ?_⟩
    · simp only [h, if_true]
      rfl
    · simp only [h, if_false]
      rfl
  case preload =>
    intro p live bad run
    have hbad : bad ↔ preloadMalformed a c ∨ i.val ∈ installed := by rw [preloadMalformed, or_assoc, or_assoc]
    exact ⟨fun hi => ⟨fun h => takePreload_skips hi (hbad.1 h), fun h => takePreload_installs hi (mt hbad.2 h)⟩,
      rfl, rfl, rfl, fun _ => rfl⟩
  case sections =>
    intro working control requesters unfrozen
    have hunfrozen : s.skipFreeze.putWork .finish = unfrozen := by rw [skipFreeze_eq]; rfl
    refine ⟨loadControl_absent, loadControl_misplaced, fun _ _ => loadControl_placed, loadRequesters_absent,
      loadRequesters_misplaced, fun _ _ => loadRequesters_placed, loadPreloadStart_absent, loadPreloadStart_misplaced,
      fun _ _ => loadPreloadStart_placed, ?rest, loadFreeze_absent, fun h => (loadFreeze_misplaced h).trans hunfrozen,
      fun o n h => ⟨fun hn => (loadFreeze_unapplied h hn).trans hunfrozen, fun l u hn hl hu hle => ?range⟩⟩
    case rest =>
      intro words installed skipped hwork hphase r
      refine ⟨fun h => ?_, fun h => ?_⟩
      · rw [loadFromPreload_of_loading hwork hphase, h, reportSkipped_none]
        rfl
      · obtain ⟨_, hr⟩ := State.preloadRecords_shape words ⟨s, installed, skipped⟩
        rw [loadFromPreload_of_loading hwork hphase, reportSkipped_some _ h, hr]
        rfl
    case range =>
      refine ⟨s.freeze.marks ||| rangeMarks l u, loadFreeze_applied h hn hl hu hle, fun g => ?_⟩
      rw [BitVec.getLsbD_or, rangeMarks_bit]

end Sys2Proof.Machine
end

section
/-! SUPPORT. Requester faults, quarantine, and the work and end of a requester clearing (02 R29 to R32, R38, R39). -/

namespace Sys2Proof.Machine

/-! ### Requester faults and quarantine (02 R29 to R32) -/

theorem faultCounted_iff (st : Settings) (q : Requester) (k : FaultKind) : faultCounted st q k = true ↔
    ¬ (q.standing = .disabled ∨ q.clearing ≠ none ∨ st.masks.getLsbD (faultCode k - 1) = true) := by
  simp [faultCounted, faultMasked, and_assoc]

theorem countedFaults_val (n : Fin 16) : (countedFaults n).val = min 15 (n.val + 1) := by
  unfold countedFaults
  split
  · exact (Nat.min_eq_right (by omega)).symm
  · omega

theorem reachesThreshold_iff (st : Settings) (n : Fin 16) :
    reachesThreshold st n = true ↔ st.threshold ≠ 0#4 ∧ st.threshold.toNat ≤ n.val := by
  simp [reachesThreshold]

theorem fault_uncounted {r : ReqId} {k : FaultKind} {s : State} (h : ¬ faultCounted s.settings (s.requester r) k = true) :
    s.fault r k = s.report (.requesterFault r k) :=
  if_neg h

theorem fault_counted {r : ReqId} {k : FaultKind} {s : State} (h : faultCounted s.settings (s.requester r) k = true)
    (ht : ¬ reachesThreshold s.settings (countedFaults (s.requester r).faults) = true) :
    s.fault r k = (s.report (.requesterFault r k)).putRequester r
      { s.requester r with faults := countedFaults (s.requester r).faults } :=
  (if_pos h).trans (if_neg ht)

theorem fault_quarantines {r : ReqId} {k : FaultKind} {s : State} (h : faultCounted s.settings (s.requester r) k = true)
    (ht : reachesThreshold s.settings (countedFaults (s.requester r).faults) = true) :
    s.fault r k = State.report (.quarantine r) ((s.report (.requesterFault r k)).putRequester r
      { s.requester r with
        standing := .quarantined, faults := 0, deadline := some (s.now + quarantineNs s.settings.quarantineTime) }) :=
  (if_pos h).trans (if_pos ht)

/-- Settles O16: a fault is not counted, is counted below the threshold, or reaches it. -/
theorem faultCounting : Obligations.FaultCounting := by
  intro r k s recorded q n with' uncounted
  have hcounted : ¬ uncounted ↔ faultCounted s.settings q k = true := (faultCounted_iff s.settings q k).symm
  have hcount : (countedFaults q.faults).val = n := countedFaults_val q.faults
  refine ⟨fun h => fault_uncounted fun hc => hcounted.2 hc h, fun m h hm ht => ?counted, fun h hne hle => ?quarantines⟩
  case counted =>
    have hbelow : ¬ reachesThreshold s.settings (countedFaults q.faults) = true := by
      rw [reachesThreshold_iff, hcount]
      rintro ⟨hne, hle⟩
      exact ht.elim hne (Nat.not_lt.2 hle)
    have hm : countedFaults (s.requester r).faults = m := Fin.ext (hcount.trans hm.symm)
    rw [fault_counted (hcounted.1 h) hbelow, hm]
    rfl
  case quarantines =>
    exact fault_quarantines (hcounted.1 h) ((reachesThreshold_iff _ _).2 ⟨hne, hcount.symm ▸ hle⟩)

theorem isDue_of_le {now d : Time} {deadline : Option Time} (h : deadline = some d) (hd : d ≤ now) :
    isDue now deadline = true := by
  rw [h]
  exact decide_eq_true hd

/-- Settles O18: the deadline is due, so its expiry has its effect. -/
theorem quarantineEnds : Obligations.QuarantineEnds := by
  intro r d s hdeadline hd
  exact if_pos (isDue_of_le hdeadline hd)

/-! ### The work of a requester clearing (02 R38, R39) -/

theorem exec_requesterClearingFree {r : ReqId} {x : Clearing} {t : Tag} {s : State}
    (hx : (s.requester r).clearing = some x) (ht : s.lowestOf r = some t) :
    exec (.requesterClearingFree r) s = .next (settle s (s.freeClaim t)) := by
  show execRequesterClearingFree r s = _
  unfold execRequesterClearingFree
  rw [if_pos (by simp [hx]), ht]

theorem exec_requesterClearingCompletion {r : ReqId} {x : Clearing} {s : State}
    (hx : (s.requester r).clearing = some x) (ht : s.lowestOf r = none) :
    exec (.requesterClearingCompletion r) s = .next { s.putRequester r (clearedRequester s.requesters.defaults[r] x) with
      port := if s.port = .holding r then .answered (bare .acked) else s.port } := by
  show execRequesterClearingCompletion r s = _
  unfold execRequesterClearingCompletion
  rw [hx, ht]

/-- Settles O17: the lowest record naming the requester is freed, and with none left the clearing completes. -/
theorem clearingWorkAndCompletion : Obligations.ClearingWorkAndCompletion := by
  intro r x s hx
  refine ⟨fun t ht hlowest => exec_requesterClearingFree hx (find_finRange_some.2 ⟨ht, hlowest⟩), fun hnone => ?_⟩
  rw [exec_requesterClearingCompletion hx (find_finRange_none.2 hnone)]
  cases x with
  | toDefaults => rfl
  | toDisabled domain limit => rfl

end Sys2Proof.Machine
end

section
/-! SUPPORT. DOMAIN_SET, REQUESTER_SET and REQUESTER_RESET at the command register (02 R26, R34, R36, 11 R181). -/

namespace Sys2Proof.Machine

/-! ### The gate of a host command (06 R107, 11 R181) -/

/-- A command at the command register, with no batch to abort, makes its tests on the state as it stands. -/
theorem atCommandRegister_interrupting {s : State} (hc : Commanded s) (hb : NoOpenBatch s)
    (body : State → State × CommandEnd) :
    atCommandRegister (State.interrupting body) s = .next ((body s).1.ended (body s).2) := by
  obtain ⟨hwrite, hrunning⟩ := hc
  have hstarting : s.starting = false := by simp [State.starting, hrunning]
  have hinterrupt : s.interrupt = s := by simp [State.interrupt, hb]
  unfold atCommandRegister State.interrupting
  rw [if_pos hwrite, hstarting, hinterrupt]
  rfl

/-! ### The tests of the three commands (02 R26, R34, R36) -/

theorem domainSetTests_refused {s : State} (h : 7 < operandByte s 0 ∨ 1 < operandByte s 1) :
    s.domainSetTests = (s, .refused .badOperand) := by
  unfold State.domainSetTests
  split
  · rfl
  · rename_i d hd
    have hlt := d.isLt
    have hval := indexBelow_some hd
    exact if_pos (h.resolve_left (by omega))

theorem domainSetTests_done {s : State} {d : Domain} (hd : d.val = operandByte s 0) (h : operandByte s 1 ≤ 1) :
    s.domainSetTests = (s.putDomain d { s.domainRecord d with pass := decide (operandByte s 1 = 0) }, .done) := by
  unfold State.domainSetTests
  rw [indexBelow_of_eq d hd]
  exact if_neg (Nat.not_lt.2 h)

theorem standingOfCode_of_gt {n : Nat} (h : 2 < n) : standingOfCode n = none := by
  match n, h with
  | _ + 3, _ => rfl

theorem standingOfCode_of_le {n : Nat} (h : n ≤ 2) : ∃ x, standingOfCode n = some x := by
  match n, h with
  | 0, _ => exact ⟨_, rfl⟩
  | 1, _ => exact ⟨_, rfl⟩
  | 2, _ => exact ⟨_, rfl⟩

theorem requesterOrder_out_of_range {s : State}
    (h : 15 < operandByte s 0 ∨ 2 < operandByte s 1 ∨ 7 < operandByte s 2 ∨ 64 < operandByte s 3) :
    requesterOrder s = none := by
  unfold requesterOrder
  obtain h | h | h | h := h
  · rw [indexBelow_of_ge h]
  · rw [standingOfCode_of_gt h]
    cases indexBelow 16 (operandByte s 0) <;> rfl
  · rw [indexBelow_of_ge h]
    cases indexBelow 16 (operandByte s 0) <;> cases standingOfCode (operandByte s 1) <;> rfl
  · rw [indexBelow_of_ge h]
    split
    · contradiction
    · rfl

theorem requesterOrder_in_range {s : State} {r : ReqId} {x : ReqStanding} {d : Domain} {l : Fin 65}
    (hr : r.val = operandByte s 0) (hx : standingOfCode (operandByte s 1) = some x) (hd : d.val = operandByte s 2)
    (hl : l.val = operandByte s 3) : requesterOrder s = some ⟨r, x, d, l⟩ := by
  unfold requesterOrder
  rw [indexBelow_of_eq r hr, hx, indexBelow_of_eq d hd, indexBelow_of_eq l hl]

theorem requesterSetTests_refused {s : State} (h : requesterOrder s = none) :
    s.requesterSetTests = (s, .refused .badOperand) := by
  unfold State.requesterSetTests
  rw [h]

theorem requesterSetTests_busy {s : State} {o : RequesterOrder} (h : requesterOrder s = some o)
    (hc : (s.requester o.requester).clearing ≠ none) : s.requesterSetTests = (s, .refused .busy) := by
  unfold State.requesterSetTests
  rw [h]
  exact if_pos (Option.isSome_iff_ne_none.2 hc)

/-- What an accepted REQUESTER_SET does: DISABLED begins a clearing, the other two states are written at once (02 R34). -/
def State.carryOut (o : RequesterOrder) (s : State) : State × CommandEnd :=
  match o.standing with
  | .disabled => (settle s (s.acceptClearing o.requester (.toDisabled o.domain o.limit)), .busyStarted)
  | .enabled => (s.putRequester o.requester ⟨.enabled, o.domain, o.limit, 0, none, none⟩, .done)
  | .quarantined =>
    (s.putRequester o.requester
      ⟨.quarantined, o.domain, o.limit, 0, some (s.now + quarantineNs s.settings.quarantineTime), none⟩, .done)

theorem requesterSetTests_accepted {s : State} {o : RequesterOrder} (h : requesterOrder s = some o)
    (hc : (s.requester o.requester).clearing = none) : s.requesterSetTests = s.carryOut o := by
  unfold State.requesterSetTests
  rw [h]
  exact if_neg (by simp [hc])

theorem requesterResetTests_refused {s : State} (h : 15 < operandByte s 0) :
    s.requesterResetTests = (s, .refused .badOperand) := by
  unfold State.requesterResetTests
  rw [indexBelow_of_ge h]

theorem requesterResetTests_busy {s : State} {r : ReqId} (hr : r.val = operandByte s 0)
    (hc : (s.requester r).clearing ≠ none) : s.requesterResetTests = (s, .refused .busy) := by
  unfold State.requesterResetTests
  rw [indexBelow_of_eq r hr]
  exact if_pos (Option.isSome_iff_ne_none.2 hc)

theorem requesterResetTests_accepted {s : State} {r : ReqId} (hr : r.val = operandByte s 0)
    (hc : (s.requester r).clearing = none) :
    s.requesterResetTests = (settle s (s.acceptClearing r .toDefaults), .busyStarted) := by
  unfold State.requesterResetTests
  rw [indexBelow_of_eq r hr]
  exact if_neg (by simp [hc])

/-- Settles O44, command by command: each passes the gate, then its tests decide. -/
theorem requesterCommands : Obligations.RequesterCommands := by
  intro s hc hb b record clears
  have hdomain : exec .domainSet s = _ := atCommandRegister_interrupting hc hb State.domainSetTests
  have hset : exec .requesterSet s = _ := atCommandRegister_interrupting hc hb State.requesterSetTests
  have hreset : exec .requesterReset s = _ := atCommandRegister_interrupting hc hb State.requesterResetTests
  rw [hdomain, hset, hreset]
  refine ⟨fun h => ?domain_refused, fun d hd h => ?domain_done, fun h => ?set_refused,
    fun r d l hr hd hl => ⟨fun hcode hx => ?set_busy, fun hx => ?set_accepted⟩, fun h => ?reset_refused,
    fun r hr => ⟨fun hx => ?reset_busy, fun hx => ?reset_accepted⟩⟩
  case domain_refused => rw [domainSetTests_refused h]
  case domain_done =>
    rw [domainSetTests_done hd h]
    rfl
  case set_refused => rw [requesterSetTests_refused (requesterOrder_out_of_range h)]
  case set_busy =>
    obtain ⟨x, hcode⟩ := standingOfCode_of_le hcode
    rw [requesterSetTests_busy (requesterOrder_in_range hr hcode hd hl) hx]
  case set_accepted =>
    have haccepted {x : ReqStanding} (hcode : standingOfCode (b 1) = some x) :
        s.requesterSetTests = s.carryOut ⟨r, x, d, l⟩ :=
      requesterSetTests_accepted (requesterOrder_in_range hr hcode hd hl) hx
    refine ⟨fun h => ?disables, fun h => ?enables, fun h => ?quarantines⟩
    case disables =>
      rw [haccepted (x := .disabled) (congrArg standingOfCode h)]
      dsimp only [State.carryOut]
    case enables =>
      rw [haccepted (x := .enabled) (congrArg standingOfCode h)]
      rfl
    case quarantines =>
      rw [haccepted (x := .quarantined) (congrArg standingOfCode h)]
      rfl
  case reset_refused => rw [requesterResetTests_refused h]
  case reset_busy => rw [requesterResetTests_busy hr hx]
  case reset_accepted => rw [requesterResetTests_accepted hr hx]

end Sys2Proof.Machine
end

section
/-! SUPPORT. What a step on an empty queue does: the expiries due, and a ns that passes (log 2, log 5). -/

namespace Sys2Proof.Machine

/-! ### The expiries due (02 R32, 05 R93, 07 R132, log 2) -/

theorem isDue_iff {now : Time} {deadline : Option Time} :
    isDue now deadline = true ↔ ∃ d, deadline = some d ∧ d ≤ now := by
  cases deadline <;> simp [isDue]

theorem slotDeadline_eq_some_iff {x : Slot} {d : Time} : slotDeadline x = some d ↔ ∃ q i a, x = .ready q i a d := by
  cases x <;> simp [slotDeadline]

theorem drainDeadline_eq_some_iff {x : Option DrainItem} {d : Time} :
    x.bind (·.deadline) = some d ↔ ∃ i, x = some ⟨i, some d⟩ := by
  constructor
  · intro h
    obtain ⟨⟨i, e⟩, rfl, rfl⟩ := Option.bind_eq_some_iff.1 h
    exact ⟨i, rfl⟩
  · rintro ⟨i, rfl⟩
    rfl

theorem mem_dueExpiries_isDue (s : State) (c : Instr) : c ∈ s.dueExpiries ↔
    (∃ r, isDue s.now (s.requester r).deadline = true ∧ .quarantineDeadlineExpiry r = c)
    ∨ (∃ k : SlotIx, isDue s.now (slotDeadline s.queue[k]) = true ∧ .discardDeadlineExpiry k = c)
    ∨ (∃ p : Fin 16, isDue s.now ((s.drain[p.val]?).bind (·.deadline)) = true ∧ .drainExpiry p = c) := by
  simp only [State.dueExpiries, List.mem_append, List.mem_map, List.mem_filter, List.mem_finRange, true_and, or_assoc]

/-- The expiries due are those of the three kinds of deadline at or before the present time. -/
theorem mem_dueExpiries (s : State) (c : Instr) : c ∈ s.dueExpiries ↔
    (∃ r d, c = .quarantineDeadlineExpiry r ∧ (s.requester r).deadline = some d ∧ d ≤ s.now)
    ∨ (∃ k q i a d, c = .discardDeadlineExpiry k ∧ s.queue[k] = .ready q i a d ∧ d ≤ s.now)
    ∨ (∃ (p : Fin 16) (i : EntryIx) (d : Time),
        c = .drainExpiry p ∧ s.drain[p.val]? = some ⟨i, some d⟩ ∧ d ≤ s.now) := by
  rw [mem_dueExpiries_isDue]
  refine or_congr ⟨?_, ?_⟩ (or_congr ⟨?_, ?_⟩ ⟨?_, ?_⟩)
  · rintro ⟨r, hdue, rfl⟩
    obtain ⟨d, hd, hle⟩ := isDue_iff.1 hdue
    exact ⟨r, d, rfl, hd, hle⟩
  · rintro ⟨r, d, rfl, hd, hle⟩
    exact ⟨r, isDue_of_le hd hle, rfl⟩
  · rintro ⟨k, hdue, rfl⟩
    obtain ⟨d, hd, hle⟩ := isDue_iff.1 hdue
    obtain ⟨q, i, a, hk⟩ := slotDeadline_eq_some_iff.1 hd
    exact ⟨k, q, i, a, d, rfl, hk, hle⟩
  · rintro ⟨k, q, i, a, d, rfl, hk, hle⟩
    exact ⟨k, isDue_of_le (slotDeadline_eq_some_iff.2 ⟨q, i, a, hk⟩) hle, rfl⟩
  · rintro ⟨p, hdue, rfl⟩
    obtain ⟨d, hd, hle⟩ := isDue_iff.1 hdue
    obtain ⟨i, hp⟩ := drainDeadline_eq_some_iff.1 hd
    exact ⟨p, i, d, rfl, hp, hle⟩
  · rintro ⟨p, i, d, rfl, hp, hle⟩
    exact ⟨p, isDue_of_le (drainDeadline_eq_some_iff.2 ⟨i, hp⟩) hle, rfl⟩

theorem dueEvent_of_none {s : State} (h : s.dueExpiries = []) : s.dueEvent = none := by
  unfold State.dueEvent
  rw [h]

theorem dueEvent_of_one {s : State} {c : Instr} (h : s.dueExpiries = [c]) : s.dueEvent = some c := by
  unfold State.dueEvent
  rw [h]

/-- With a deadline due, the expiry taken is one of those due, whatever the tie-break. -/
theorem dueEvent_mem {s : State} (h : s.dueExpiries ≠ []) : ∃ c ∈ s.dueExpiries, s.dueEvent = some c := by
  match hl : s.dueExpiries, h with
  | [c], _ => exact ⟨c, List.mem_singleton_self c, dueEvent_of_one hl⟩
  | c :: d :: cs, _ =>
    have hlt : Config.tieBreak s.free % (cs.length + 2) < (c :: d :: cs).length := Nat.mod_lt _ (Nat.succ_pos _)
    refine ⟨_, List.getElem_mem hlt, ?_⟩
    unfold State.dueEvent
    rw [hl]
    exact List.getElem?_eq_getElem hlt

/-! ### A step on an empty queue (log 2) -/

theorem step_of_expiry {s : State} {c : Instr} (hp : s.pending = []) (hc : s.dueEvent = some c) :
    step s = exec c { s with free := s.free + 1 } := by
  unfold step State.idle
  rw [hp, hc]

theorem step_of_no_expiry {s : State} (hp : s.pending = []) (hc : s.dueEvent = none) : step s = .next s.tick := by
  unfold step State.idle
  rw [hp, hc]

/-! ### A ns passes (12 R187, log 5) -/

theorem tick_eq (s : State) : s.tick = { s.loadTick with now := s.now + 1 } := by
  obtain ⟨_, _, _, _, _, _, _, h⟩ := State.loadTick_shape s
  unfold State.tick
  rw [h]

/-- With the load done, or the RESET line low, the loader does nothing. -/
theorem loadTick_of_idle {s : State} (h : s.loader.phase = .running ∨ s.resetLow = true) : s.loadTick = s := by
  have hidle : ¬ s.loaderWorks = true := by
    obtain h | h := h <;> simp [State.loaderWorks, h]
  exact if_neg hidle

/-- Settles O2: the step by the expiries due, which those are, and what a ns changes. -/
theorem stepOnEmptyQueue : Obligations.StepOnEmptyQueue := by
  intro s
  refine ⟨fun hp => ⟨fun h => step_of_no_expiry hp (dueEvent_of_none h), fun c h => step_of_expiry hp (dueEvent_of_one h),
    fun h => ?expires⟩, mem_dueExpiries s, fun h => ?idle, tick_eq s, ?frame⟩
  case expires =>
    obtain ⟨c, hmem, hc⟩ := dueEvent_mem h
    exact ⟨c, hmem, step_of_expiry hp hc⟩
  case idle => rw [tick_eq, loadTick_of_idle h]
  case frame =>
    obtain ⟨_, _, _, _, _, _, _, h⟩ := State.loadTick_shape s
    rw [tick_eq, h]

end Sys2Proof.Machine
end

section
/-! SUPPORT. What freeing a claim does to the claim records, the claim counts and the error records (04 R78, R80). -/

namespace Sys2Proof.Machine

/-! ### Claim counts (04 R67, R78) -/

/-- The end of a drain keeps every claim count (07 R131). -/
theorem claimCount_completeDrain {s : State} (h : Canonical s) (i j : EntryIx) :
    ((s.completeDrain i).entry j).claimCount = (s.entry j).claimCount := by
  have hentry : (s.completeDrain i).entry j = (s.putEntry i (replaceEntry (s.entry i) .vacant)).entry j := rfl
  rw [hentry]
  by_cases hj : j = i
  · rw [hj, State.entry_putEntry_self h]
    rfl
  · rw [State.entry_putEntry_ne s _ hj]

theorem claimCount_lowerCount {s : State} (h : Canonical s) (i j : EntryIx) :
    ((s.lowerCount i).entry j).claimCount =
      if j = i then lowered (s.entry i).claimCount s.free else (s.entry j).claimCount := by
  have hput : ((s.putEntry i { s.entry i with claimCount := lowered (s.entry i).claimCount s.free }).entry j).claimCount =
      if j = i then lowered (s.entry i).claimCount s.free else (s.entry j).claimCount := by
    by_cases hj : j = i
    · rw [if_pos hj, hj, State.entry_putEntry_self h]
    · rw [if_neg hj, State.entry_putEntry_ne s _ hj]
  unfold State.lowerCount
  dsimp only
  split
  · exact (claimCount_completeDrain (canonical_congr rfl (canonical_putEntry h i _)) i j).trans hput
  · exact hput

theorem lowered_val {c : Fin 65} (h : c.val ≠ 0) (free : Nat) : (lowered c free).val + 1 = c.val := by
  unfold lowered
  rw [if_neg h]
  exact Nat.sub_add_cancel (Nat.pos_of_ne_zero h)

/-! ### Freeing a claim (04 R78) -/

theorem freeClaim_claims (t : Tag) (s : State) : (s.freeClaim t).claims = s.claims.set t .free := by
  unfold State.freeClaim
  split
  · rename_i hfree
    rw [← hfree]
    exact (Vector.set_getElem_self _).symm
  · rfl
  · exact State.lowerCount_claims _ _

/-- Freeing an ACTIVE record that names the entry lowers the entry's count by 1. -/
theorem claimCount_freeClaim_active {s : State} (h : Canonical s) {i : EntryIx} {t : Tag}
    (ht : activeOn i s.claims[t] = true) (hi : (s.entry i).claimCount.val ≠ 0) :
    ((s.freeClaim t).entry i).claimCount.val + 1 = (s.entry i).claimCount.val := by
  unfold State.freeClaim
  split
  · rename_i hc
    rw [hc] at ht
    contradiction
  · rename_i hc
    rw [hc] at ht
    contradiction
  · rename_i c hc
    rw [hc] at ht
    have hci : c.entry = i := beq_iff_eq.1 ht
    have hlower := claimCount_lowerCount (s := s.putClaim t .free) h c.entry i
    rw [if_pos hci.symm, hci] at hlower
    rw [hci, hlower]
    exact lowered_val hi s.free

/-- Freeing any other record leaves the entry's count. -/
theorem claimCount_freeClaim_other {s : State} (h : Canonical s) {i : EntryIx} {t : Tag}
    (ht : activeOn i s.claims[t] = false) : ((s.freeClaim t).entry i).claimCount = (s.entry i).claimCount := by
  unfold State.freeClaim
  split
  · rfl
  · rfl
  · rename_i c hc
    rw [hc] at ht
    have hci : i ≠ c.entry := fun he => beq_eq_false_iff_ne.1 ht he.symm
    exact (claimCount_lowerCount (s := s.putClaim t .free) h c.entry i).trans (if_neg hci)

/-! ### No error is recorded (10 R165) -/

/-- The First Error record and the Next Error set of `s` stand in `u`. -/
def KeepsErrorRecords (s u : State) : Prop := u.errors.first = s.errors.first ∧ u.errors.next = s.errors.next

theorem keepsErrorRecords_lowerCount (i : EntryIx) (s : State) : KeepsErrorRecords s (s.lowerCount i) := by
  unfold State.lowerCount
  dsimp only
  split
  · exact ⟨rfl, rfl⟩
  · exact ⟨rfl, rfl⟩

theorem keepsErrorRecords_freeClaim (t : Tag) (s : State) : KeepsErrorRecords s (s.freeClaim t) := by
  unfold State.freeClaim
  split
  · exact ⟨rfl, rfl⟩
  · exact ⟨rfl, rfl⟩
  · exact keepsErrorRecords_lowerCount _ (s.putClaim t .free)

end Sys2Proof.Machine
end

section
/-! SUPPORT. What the acceptance of a requester clearing does to the requester's slots and the claims they carry (02 R37,
05 R98). -/

namespace Sys2Proof.Machine

/-! ### Emptying one slot (05 R98) -/

theorem dropSlot_of_bare {s : State} {k : SlotIx} (h : slotTag s.queue[k] = none) : s.dropSlot k = s.putSlot k .empty := by
  unfold State.dropSlot
  rw [h]

theorem dropSlot_of_carrying {s : State} {k : SlotIx} {t : Tag} (h : slotTag s.queue[k] = some t) :
    s.dropSlot k = (s.putSlot k .empty).freeClaim t := by
  unfold State.dropSlot
  rw [h]

theorem dropSlot_queue (k : SlotIx) (s : State) : (s.dropSlot k).queue = s.queue.set k .empty := by
  unfold State.dropSlot
  split
  · exact State.freeClaim_queue _ _
  · rfl

theorem dropSlot_claim (k : SlotIx) (t : Tag) (s : State) :
    (s.dropSlot k).claims[t] = if slotTag s.queue[k] = some t then .free else s.claims[t] := by
  cases htag : slotTag s.queue[k] with
  | none =>
    rw [dropSlot_of_bare htag]
    rfl
  | some u =>
    rw [dropSlot_of_carrying htag, freeClaim_claims]
    by_cases hu : u = t
    · rw [hu, if_pos rfl, set_get_self]
    · rw [if_neg fun h => hu (Option.some.inj h), set_get_ne _ _ (Ne.symm hu)]
      rfl

theorem keepsErrorRecords_dropSlot (k : SlotIx) (s : State) : KeepsErrorRecords s (s.dropSlot k) := by
  unfold State.dropSlot
  split
  · exact keepsErrorRecords_freeClaim _ (s.putSlot k .empty)
  · exact ⟨rfl, rfl⟩

/-! ### One slot's turn in the clearing (02 R37) -/

/-- The slot holds a request of the requester. -/
abbrev Owns (r : ReqId) (s : State) (k : SlotIx) : Prop := (slotRequest s.queue[k]).map (·.requester) = some r

/-- The slot is the requester's and carries the tag. -/
abbrev Carries (r : ReqId) (s : State) (k : SlotIx) (t : Tag) : Prop := Owns r s k ∧ slotTag s.queue[k] = some t

/-- One turn of `State.dropSlotsOf`: the slot is emptied if it is the requester's. -/
def State.dropIfOwned (r : ReqId) (s : State) (k : SlotIx) : State := if Owns r s k then s.dropSlot k else s

theorem dropSlotsOf_eq (r : ReqId) (s : State) : s.dropSlotsOf r = (List.finRange 8).foldl (State.dropIfOwned r) s := rfl

theorem dropIfOwned_of_owns {r : ReqId} {s : State} {k : SlotIx} (h : Owns r s k) : s.dropIfOwned r k = s.dropSlot k :=
  if_pos h

theorem dropIfOwned_of_not_owns {r : ReqId} {s : State} {k : SlotIx} (h : ¬ Owns r s k) : s.dropIfOwned r k = s :=
  if_neg h

theorem canonical_dropIfOwned {s : State} (h : Canonical s) (r : ReqId) (k : SlotIx) : Canonical (s.dropIfOwned r k) := by
  by_cases hk : Owns r s k
  · rw [dropIfOwned_of_owns hk]
    exact canonical_dropSlot h k
  · rw [dropIfOwned_of_not_owns hk]
    exact h

theorem dropIfOwned_slot (r : ReqId) (s : State) (k j : SlotIx) :
    (s.dropIfOwned r k).queue[j] = if j = k ∧ Owns r s k then .empty else s.queue[j] := by
  by_cases hk : Owns r s k
  · rw [dropIfOwned_of_owns hk, dropSlot_queue]
    by_cases hj : j = k
    · rw [if_pos ⟨hj, hk⟩, hj, set_get_self]
    · rw [if_neg fun h => hj h.1, set_get_ne _ _ hj]
  · rw [dropIfOwned_of_not_owns hk, if_neg fun h => hk h.2]

theorem dropIfOwned_slot_ne (r : ReqId) (s : State) {k j : SlotIx} (h : j ≠ k) :
    (s.dropIfOwned r k).queue[j] = s.queue[j] :=
  (dropIfOwned_slot r s k j).trans (if_neg fun hj => h hj.1)

theorem not_owns_dropIfOwned (r : ReqId) (s : State) (k : SlotIx) : ¬ Owns r (s.dropIfOwned r k) k := by
  unfold Owns
  rw [dropIfOwned_slot]
  by_cases hk : Owns r s k
  · rw [if_pos ⟨rfl, hk⟩]
    exact Option.some_ne_none r ∘ Eq.symm
  · rw [if_neg fun h => hk h.2]
    exact hk

/-- After a turn the requester's slots are those it had, without the one whose turn it was. -/
theorem owns_dropIfOwned_iff (r : ReqId) (s : State) (k j : SlotIx) :
    Owns r (s.dropIfOwned r k) j ↔ Owns r s j ∧ j ≠ k := by
  by_cases hj : j = k
  · subst hj
    exact iff_of_false (not_owns_dropIfOwned r s j) fun h => h.2 rfl
  · unfold Owns
    rw [dropIfOwned_slot_ne r s hj]
    exact (and_iff_left hj).symm

theorem carries_dropIfOwned_iff (r : ReqId) (s : State) (k j : SlotIx) (t : Tag) :
    Carries r (s.dropIfOwned r k) j t ↔ Carries r s j t ∧ j ≠ k := by
  unfold Carries
  rw [owns_dropIfOwned_iff, and_assoc, and_assoc, and_comm (a := j ≠ k)]
  refine and_congr_right fun _ => and_congr_left fun hj => ?_
  rw [dropIfOwned_slot_ne r s hj]

theorem dropIfOwned_claim (r : ReqId) (s : State) (k : SlotIx) (t : Tag) :
    (s.dropIfOwned r k).claims[t] = if Carries r s k t then .free else s.claims[t] := by
  by_cases hk : Owns r s k
  · rw [dropIfOwned_of_owns hk, dropSlot_claim]
    simp only [Carries, eq_true hk, true_and]
  · rw [dropIfOwned_of_not_owns hk, if_neg fun h => hk h.1]

theorem claimCount_dropIfOwned_active {r : ReqId} {s : State} (h : Canonical s) {k : SlotIx} {t : Tag} {i : EntryIx}
    (hk : Carries r s k t) (ht : activeOn i s.claims[t] = true) (hi : (s.entry i).claimCount.val ≠ 0) :
    ((s.dropIfOwned r k).entry i).claimCount.val + 1 = (s.entry i).claimCount.val := by
  rw [dropIfOwned_of_owns hk.1, dropSlot_of_carrying hk.2]
  exact claimCount_freeClaim_active (s := s.putSlot k .empty) h ht hi

theorem claimCount_dropIfOwned_other {r : ReqId} {s : State} (h : Canonical s) {k : SlotIx} {i : EntryIx}
    (hk : ∀ t, Carries r s k t → activeOn i s.claims[t] = false) :
    ((s.dropIfOwned r k).entry i).claimCount = (s.entry i).claimCount := by
  by_cases howns : Owns r s k
  · rw [dropIfOwned_of_owns howns]
    cases htag : slotTag s.queue[k] with
    | none =>
      rw [dropSlot_of_bare htag]
      rfl
    | some t =>
      rw [dropSlot_of_carrying htag]
      exact claimCount_freeClaim_other (s := s.putSlot k .empty) h (hk t ⟨howns, htag⟩)
  · rw [dropIfOwned_of_not_owns howns]

/-! ### The turns of a list of slots -/

theorem foldl_dropIfOwned_slot (r : ReqId) (l : List SlotIx) (s : State) (j : SlotIx) :
    (l.foldl (State.dropIfOwned r) s).queue[j] = if j ∈ l ∧ Owns r s j then .empty else s.queue[j] := by
  induction l generalizing s with
  | nil => rfl
  | cons k l ih =>
    rw [List.foldl_cons, ih]
    by_cases hj : j = k
    · subst hj
      rw [if_neg fun h => not_owns_dropIfOwned r s j h.2, dropIfOwned_slot]
      simp only [List.mem_cons, true_and, true_or]
    · simp only [owns_dropIfOwned_iff, dropIfOwned_slot_ne r s hj, List.mem_cons, hj, false_or, ne_eq, not_false_eq_true,
        and_true]

/-- A turn that frees another tag, or none, leaves who carries this one to the other slots. -/
theorem exists_carries_dropIfOwned_iff {r : ReqId} {s : State} {k : SlotIx} {t : Tag} (hk : ¬ Carries r s k t)
    (l : List SlotIx) : (∃ j ∈ l, Carries r (s.dropIfOwned r k) j t) ↔ ∃ j ∈ k :: l, Carries r s j t := by
  constructor
  · rintro ⟨j, hj, hcarries⟩
    exact ⟨j, List.mem_cons_of_mem k hj, ((carries_dropIfOwned_iff r s k j t).1 hcarries).1⟩
  · rintro ⟨j, hj, hcarries⟩
    have hne : j ≠ k := fun h => hk (h ▸ hcarries)
    exact ⟨j, List.mem_of_ne_of_mem hne hj, (carries_dropIfOwned_iff r s k j t).2 ⟨hcarries, hne⟩⟩

theorem foldl_dropIfOwned_claim (r : ReqId) (l : List SlotIx) (s : State) (t : Tag) :
    (l.foldl (State.dropIfOwned r) s).claims[t] = if ∃ k ∈ l, Carries r s k t then .free else s.claims[t] := by
  induction l generalizing s with
  | nil => simp
  | cons k l ih =>
    rw [List.foldl_cons, ih, dropIfOwned_claim]
    by_cases hk : Carries r s k t
    · rw [if_pos hk, ite_self, if_pos ⟨k, List.mem_cons_self, hk⟩]
    · rw [if_neg hk]
      exact if_congr (exists_carries_dropIfOwned_iff hk l) rfl rfl

/-- A slot of the list is the requester's and carries the tag, whose record is ACTIVE and names the entry. -/
def FreedOn (r : ReqId) (l : List SlotIx) (s : State) (i : EntryIx) (t : Tag) : Prop :=
  (∃ k ∈ l, Carries r s k t) ∧ activeOn i s.claims[t] = true

/-- After the first slot's turn, what is left to free is what its own tag was not. -/
theorem freedOn_dropIfOwned_iff (r : ReqId) (k : SlotIx) (l : List SlotIx) (s : State) (i : EntryIx) (t : Tag) :
    FreedOn r l (s.dropIfOwned r k) i t ↔ FreedOn r (k :: l) s i t ∧ ¬ Carries r s k t := by
  unfold FreedOn
  rw [dropIfOwned_claim]
  by_cases hk : Carries r s k t
  · rw [if_pos hk]
    exact iff_of_false (fun h => Bool.noConfusion h.2) fun h => h.2 hk
  · rw [if_neg hk, exists_carries_dropIfOwned_iff hk]
    exact (and_iff_left hk).symm

/-- The entry's count falls by the number of ACTIVE records naming it that are freed. -/
theorem foldl_dropIfOwned_claimCount (r : ReqId) (i : EntryIx) (l : List SlotIx) {s : State} (h : Canonical s)
    {freed : List Tag} (hnodup : freed.Nodup) (hfreed : ∀ t, t ∈ freed ↔ FreedOn r l s i t)
    (hle : freed.length ≤ (s.entry i).claimCount.val) :
    ((l.foldl (State.dropIfOwned r) s).entry i).claimCount.val + freed.length = (s.entry i).claimCount.val := by
  induction l generalizing s freed with
  | nil =>
    have hnil : freed = [] := List.eq_nil_iff_forall_not_mem.2 fun t ht => by
      obtain ⟨⟨_, hk, _⟩, _⟩ := (hfreed t).1 ht
      exact List.not_mem_nil hk
    rw [hnil]
    rfl
  | cons k l ih =>
    have hcanonical := canonical_dropIfOwned h r k
    rw [List.foldl_cons]
    by_cases hk : ∃ t, Carries r s k t ∧ activeOn i s.claims[t] = true
    · obtain ⟨t, hcarries, hactive⟩ := hk
      have hmem : t ∈ freed := (hfreed t).2 ⟨⟨k, List.mem_cons_self, hcarries⟩, hactive⟩
      have hlen := List.length_erase_of_mem hmem
      have hpos := List.length_pos_of_mem hmem
      have hcount := claimCount_dropIfOwned_active h hcarries hactive (by omega)
      have htag (u : Tag) : Carries r s k u ↔ u = t := by
        rw [Carries, hcarries.2, Option.some.injEq, eq_comm (a := t)]
        exact and_iff_right hcarries.1
      have hrest := ih hcanonical (hnodup.erase t)
        (fun u => by rw [hnodup.mem_erase_iff, freedOn_dropIfOwned_iff, ← hfreed, htag, and_comm]) (by omega)
      omega
    · have hother (t : Tag) (ht : Carries r s k t) : activeOn i s.claims[t] = false :=
        Bool.eq_false_iff.2 fun hactive => hk ⟨t, ht, hactive⟩
      have hcount := claimCount_dropIfOwned_other h hother
      have hrest := ih hcanonical hnodup
        (fun t => by
          rw [freedOn_dropIfOwned_iff, ← hfreed]
          exact (and_iff_left_of_imp fun ht hcarries => hk ⟨t, hcarries, ((hfreed t).1 ht).2⟩).symm)
        (by rw [hcount]; exact hle)
      rw [hrest, hcount]

/-! ### The acceptance of a requester clearing (02 R37) -/

theorem acceptClearing_eq (r : ReqId) (x : Clearing) (s : State) : s.acceptClearing r x =
    (List.finRange 8).foldl (State.dropIfOwned r)
      (s.putRequester r { s.requester r with clearing := some x, faults := 0, deadline := none }) := rfl

theorem acceptClearing_requesters (r : ReqId) (x : Clearing) (s : State) : (s.acceptClearing r x).requesters =
    { s.requesters with
      live := s.requesters.live.set r { s.requester r with clearing := some x, faults := 0, deadline := none } } :=
  State.dropSlotsOf_requesters _ _

theorem acceptClearing_slot (r : ReqId) (x : Clearing) (s : State) (k : SlotIx) :
    (s.acceptClearing r x).queue[k] = if Owns r s k then .empty else s.queue[k] := by
  rw [acceptClearing_eq, foldl_dropIfOwned_slot]
  simp only [List.mem_finRange, true_and]
  rfl

theorem acceptClearing_claim (r : ReqId) (x : Clearing) (s : State) (t : Tag) :
    (s.acceptClearing r x).claims[t] = if ∃ k, Carries r s k t then .free else s.claims[t] := by
  rw [acceptClearing_eq, foldl_dropIfOwned_claim]
  simp only [List.mem_finRange, true_and]
  rfl

theorem acceptClearing_claimCount (r : ReqId) (x : Clearing) {s : State} (h : Canonical s) (i : EntryIx) {freed : List Tag}
    (hnodup : freed.Nodup) (hfreed : ∀ t, t ∈ freed ↔ (∃ k, Carries r s k t) ∧ activeOn i s.claims[t] = true)
    (hle : freed.length ≤ (s.entry i).claimCount.val) :
    ((s.acceptClearing r x).entry i).claimCount.val + freed.length = (s.entry i).claimCount.val := by
  rw [acceptClearing_eq]
  refine foldl_dropIfOwned_claimCount r i _ (canonical_of_store (State.putRequester_store _ _ _) h) hnodup
    (fun t => (hfreed t).trans ?_) hle
  simp only [FreedOn, List.mem_finRange, true_and]
  rfl

theorem keepsErrorRecords_acceptClearing (r : ReqId) (x : Clearing) (s : State) :
    KeepsErrorRecords s (s.acceptClearing r x) := by
  rw [acceptClearing_eq]
  refine State.foldl_keeps (p := KeepsErrorRecords s) (fun u k hu => ?_) _ ⟨rfl, rfl⟩
  by_cases hk : Owns r u k
  · obtain ⟨hfirst, hnext⟩ := keepsErrorRecords_dropSlot k u
    rw [dropIfOwned_of_owns hk]
    exact ⟨hfirst.trans hu.1, hnext.trans hu.2⟩
  · rw [dropIfOwned_of_not_owns hk]
    exact hu

theorem owns_iff (r : ReqId) (s : State) (k : SlotIx) :
    Owns r s k ↔ ∃ q, slotRequest s.queue[k] = some q ∧ q.requester = r := Option.map_eq_some_iff

/-! ### SLOT_RESET (02 R36, 03 R63) -/

theorem exec_slotReset {r : ReqId} {s : State} (h : PortOpen s) :
    exec (.slotReset r) s = .next (settle s (s.slotResetRequest r)) := by
  obtain ⟨hport, hrunning⟩ := h
  have hready : s.portReady = true := beq_iff_eq.2 hport
  have hstarting : ¬ s.starting = true := by simp [State.starting, hrunning]
  show execSlotReset r s = _
  unfold execSlotReset
  rw [if_pos hready, if_neg hstarting]

theorem slotResetRequest_accepts {r : ReqId} {s : State} (h : (s.requester r).clearing = none) :
    s.slotResetRequest r = { s.acceptClearing r .toDefaults with port := .holding r } := by
  unfold State.slotResetRequest
  rw [if_neg (by simp [h])]

theorem slotResetRequest_joins {r : ReqId} {s : State} (h : (s.requester r).clearing ≠ none) :
    s.slotResetRequest r =
      { s.putRequester r { s.requester r with clearing := some .toDefaults } with port := .holding r } := by
  unfold State.slotResetRequest
  rw [if_pos (Option.isSome_iff_ne_none.2 h)]

/-- Settles O14: the acceptance field by field, then the two forms of SLOT_RESET. -/
theorem slotResetAndClearing : Obligations.SlotResetAndClearing := by
  intro r s
  refine ⟨fun x => ?acceptance, fun h hnone => ?accepts, fun h hsome => ?joins⟩
  case acceptance =>
    have hturns := acceptClearing_eq r x s
    have hrequesters := acceptClearing_requesters r x s
    have hslot := acceptClearing_slot r x s
    have hclaim := acceptClearing_claim r x s
    have hcount := acceptClearing_claimCount r x (s := s)
    have hport := State.acceptClearing_port r x s
    obtain ⟨hfirst, hnext⟩ := keepsErrorRecords_acceptClearing r x s
    generalize s.acceptClearing r x = u at *
    refine ⟨hrequesters, ?turns, fun v k => ⟨dropSlot_of_bare, fun t => dropSlot_of_carrying⟩,
      fun k q hq hr => ?none_left, fun k hk => ?others, fun t ht => (hclaim t).trans (if_pos ht),
      fun t ht => (hclaim t).trans (if_neg ht),
      fun i freed hcanonical hnodup hfreed hle => hcount hcanonical i hnodup hfreed hle, hfirst, hnext, hport⟩
    case turns =>
      rw [hrequesters]
      exact hturns
    case none_left =>
      rw [hslot] at hq
      split at hq
      · contradiction
      · rename_i howns
        exact howns ((owns_iff r s k).2 ⟨q, hq, hr⟩)
    case others =>
      refine (hslot k).trans (if_neg fun howns => ?_)
      obtain ⟨q, hq, hr⟩ := (owns_iff r s k).1 howns
      exact hk q hq hr
  case accepts => rw [exec_slotReset h, slotResetRequest_accepts hnone]
  case joins =>
    rw [exec_slotReset h, slotResetRequest_joins hsome]
    exact congrArg Host.Outcome.next (settle_of_same (Nat.le_refl _) fun _ _ => rfl)

end Sys2Proof.Machine
end

section
/-! SUPPORT. How a response is delivered, and a RESOLVE answered at steps 1 to 5, before any entry is read (03 R48 to
R53, R59). -/

namespace Sys2Proof.Machine

/-! ### The delivery of a response (03 R42, R59) -/

theorem deliver_of_no_fault {a : Response} (h : faultOf a.verdict = none) (r : ReqId) (s : State) :
    s.deliver r a = { s with port := .answered a } := by
  unfold State.deliver
  simp only [h]

theorem deliver_of_fault {a : Response} {f : FaultKind} (h : faultOf a.verdict = some f) (r : ReqId) (s : State) :
    s.deliver r a = State.fault r f { s with port := .answered a } := by
  unfold State.deliver
  simp only [h]

theorem portReady_eq_true {s : State} (h : s.port = .ready) : s.portReady = true := beq_iff_eq.2 h

theorem exec_resolve {q : Request} {s : State} (h : s.port = .ready) :
    exec (resolveOf q) s =
      .next (settle s ((s.resolveRequest q).1.deliver q.requester (s.resolveRequest q).2)) := by
  show execResolve _ _ _ _ s = _
  unfold execResolve
  rw [if_pos (portReady_eq_true h)]

/-- A RESOLVE that leaves the Table Store and the Drain List brings about no retake. -/
theorem exec_resolve_of_table_kept {q : Request} {s u : State} {a : Response} (hport : s.port = .ready)
    (h : s.resolveRequest q = (u, a)) (hstore : u.store = s.store) (hdrain : u.drain = s.drain) :
    exec (resolveOf q) s = .next (u.deliver q.requester a) := by
  rw [exec_resolve hport, h]
  refine congrArg _ (settle_of_same (by rw [State.deliver_drain, hdrain]) fun _ _ => State.entry_congr ?_ _)
  rw [State.deliver_store, hstore]

/-! ### Steps 2 and 3 (03 R49, R50) -/

theorem standingDenial_of_clearing {s : State} {r : ReqId} (h : (s.requester r).clearing ≠ none) :
    s.standingDenial r = some (.denied .reqDisabled) :=
  if_pos (Option.isSome_iff_ne_none.2 h)

theorem standingDenial_of_disabled {s : State} {r : ReqId} (hclearing : (s.requester r).clearing = none)
    (h : (s.requester r).standing = .disabled) : s.standingDenial r = some (.denied .reqDisabled) := by
  simp [State.standingDenial, hclearing, h]

theorem standingDenial_of_quarantined {s : State} {r : ReqId} (hclearing : (s.requester r).clearing = none)
    (h : (s.requester r).standing = .quarantined) : s.standingDenial r = some (.denied .quarantined) := by
  simp [State.standingDenial, hclearing, h]

theorem starting_eq_false {s : State} (h : s.loader.phase = .running) : s.starting = false := by
  simp [State.starting, h]

theorem resolveRequest_of_denial {q : Request} {s : State} {v : Verdict} (hphase : s.loader.phase = .running)
    (h : s.standingDenial q.requester = some v) : s.resolveRequest q = (s, bare v) := by
  unfold State.resolveRequest
  rw [starting_eq_false hphase, h]
  rfl

theorem resolveRequest_outside {q : Request} {s : State} (hphase : s.loader.phase = .running)
    (hadmitted : Admitted q.requester s) (h : ¬ InWindow q.address s) :
    s.resolveRequest q = (s, ⟨.passed, some (s.settings.snoop, q.address), none, none, none⟩) := by
  unfold State.resolveRequest
  rw [starting_eq_false hphase, standingDenial_of_admitted hadmitted]
  exact if_neg fun hin => h ((inWindow_iff s _).1 hin)

theorem resolveRequest_inside {q : Request} {s : State} (hphase : s.loader.phase = .running)
    (hadmitted : Admitted q.requester s) (h : InWindow q.address s) : s.resolveRequest q = s.resolveInside q := by
  unfold State.resolveRequest
  rw [starting_eq_false hphase, standingDenial_of_admitted hadmitted]
  exact if_pos ((inWindow_iff s _).2 h)

/-- Settles O6: steps 2 and 3 decide without a look at queue or table, and none of their answers is a fault. -/
theorem resolveBeforeTheTable : Obligations.ResolveBeforeTheTable := by
  rintro q s ⟨hport, hphase⟩ denied
  have hdenied {v : Verdict} (h : s.standingDenial q.requester = some v) (hv : faultOf v = none) :
      exec (resolveOf q) s = .next { s with port := .answered (bare v) } := by
    rw [exec_resolve_of_table_kept hport (resolveRequest_of_denial hphase h) rfl rfl, deliver_of_no_fault hv]
  refine ⟨fun hclearing => hdenied (standingDenial_of_clearing hclearing) rfl,
    fun hclearing hstanding => hdenied (standingDenial_of_disabled hclearing hstanding) rfl,
    fun hclearing hstanding => hdenied (standingDenial_of_quarantined hclearing hstanding) rfl,
    fun hadmitted houtside => ?_⟩
  rw [exec_resolve_of_table_kept hport (resolveRequest_outside hphase hadmitted houtside) rfl rfl,
    deliver_of_no_fault rfl]

/-! ### Step 4: the stored answer (03 R52) -/

/-- The lowest slot in the given state that holds the request. -/
theorem slotHolding_eq_some {s : State} {p : Slot → Bool} {q : Request} {k : SlotIx} (hp : p s.queue[k] = true)
    (hq : slotRequest s.queue[k] = some q)
    (hlowest : ∀ j : SlotIx, j < k → p s.queue[j] = true → slotRequest s.queue[j] ≠ some q) :
    s.slotHolding p q = some k := by
  refine find_finRange_some.2 ⟨by rw [hp, hq, beq_self_eq_true, Bool.and_self], fun j hj => ?_⟩
  rw [Bool.and_eq_false_imp]
  exact fun hpj => beq_eq_false_iff_ne.2 (hlowest j hj hpj)

theorem slotHolding_eq_none_iff {s : State} {p : Slot → Bool} {q : Request} :
    s.slotHolding p q = none ↔ ¬ ∃ k : SlotIx, p s.queue[k] = true ∧ slotRequest s.queue[k] = some q := by
  unfold State.slotHolding
  rw [find_finRange_none, not_exists]
  refine forall_congr' fun k => ?_
  rw [← Bool.not_eq_true, Bool.and_eq_true, beq_iff_eq]

theorem resolveInside_of_stored {q : Request} {k : SlotIx} {i : EntryIx} {a : Response} {d : Time} {s : State}
    (hk : s.queue[k] = .ready q i a d)
    (hlowest : ∀ j : SlotIx, j < k → isReady s.queue[j] = true → slotRequest s.queue[j] ≠ some q) :
    s.resolveInside q = (s.putSlot k .empty, a) := by
  have hholding : s.slotHolding isReady q = some k :=
    slotHolding_eq_some (by rw [hk]; rfl) (by rw [hk]; rfl) hlowest
  unfold State.resolveInside
  simp only [hholding, hk, storedAnswer]

/-- Settles O9: the lowest READY slot that holds the request gives its answer, and a stored denial incurs its fault at
the delivery. -/
theorem resolveStoredAnswer : Obligations.ResolveStoredAnswer := by
  rintro q k i a d s ⟨hport, hphase⟩ hadmitted hwindow hk hlowest u
  have hexec : exec (resolveOf q) s = .next ((s.putSlot k .empty).deliver q.requester a) :=
    exec_resolve_of_table_kept hport
      ((resolveRequest_inside hphase hadmitted hwindow).trans (resolveInside_of_stored hk hlowest)) rfl rfl
  refine ⟨fun hnone => ?_, fun f hfault => ?_⟩
  · rw [hexec, deliver_of_no_fault hnone]
    rfl
  · rw [hexec, deliver_of_fault hfault]
    rfl

/-! ### Step 5: a locked group (03 R53, 05 R84, R85) -/

theorem resolveInside_of_locked {q : Request} {i : EntryIx} {s : State} (hgoverns : Governs i q.address s)
    (hnone : NoStoredAnswer q s) (hlock : s.store.lockMark = some (groupOf i)) :
    s.resolveInside q = s.storeRequest q i := by
  unfold State.resolveInside
  simp only [slotHolding_isReady_of_noStoredAnswer hnone, pageOf_of_governs hgoverns, if_pos hlock]

theorem storeRequest_pending {q : Request} {s : State}
    (h : ∃ k : SlotIx, isWaiting s.queue[k] = true ∧ slotRequest s.queue[k] = some q) (i : EntryIx) :
    s.storeRequest q i = (s, withPage (.retry .pending) i) := by
  have hsome : s.slotHolding isWaiting q ≠ none := fun hnone => slotHolding_eq_none_iff.1 hnone h
  obtain ⟨k, hk⟩ := Option.ne_none_iff_exists'.1 hsome
  unfold State.storeRequest
  simp only [hk]

theorem storeRequest_queued {q : Request} {s : State} {k : SlotIx}
    (h : ¬ ∃ k : SlotIx, isWaiting s.queue[k] = true ∧ slotRequest s.queue[k] = some q) (hk : s.queue[k] = .empty)
    (hlowest : ∀ j : SlotIx, j < k → s.queue[j] ≠ .empty) (i : EntryIx) :
    s.storeRequest q i = (s.putSlot k (.waiting q i), withPage (.retry .queued) i) := by
  have hempty : s.lowestEmpty = some k :=
    find_finRange_some.2 ⟨beq_iff_eq.2 hk, fun j hj => beq_eq_false_iff_ne.2 (hlowest j hj)⟩
  unfold State.storeRequest
  simp only [slotHolding_eq_none_iff.2 h, hempty]

theorem storeRequest_queueFull {q : Request} {s : State}
    (h : ¬ ∃ k : SlotIx, isWaiting s.queue[k] = true ∧ slotRequest s.queue[k] = some q)
    (hfull : ∀ k : SlotIx, s.queue[k] ≠ .empty) (i : EntryIx) :
    s.storeRequest q i = (s, withPage (.retry .queueFull) i) := by
  have hempty : s.lowestEmpty = none := find_finRange_none.2 fun k => beq_eq_false_iff_ne.2 (hfull k)
  unfold State.storeRequest
  simp only [slotHolding_eq_none_iff.2 h, hempty]

/-- Settles O10: no entry is read, so the table stands, and none of the queue's three answers is a fault. -/
theorem resolveLockedGroup : Obligations.ResolveLockedGroup := by
  rintro q i s ⟨hport, hphase⟩ hadmitted hwindow hgoverns hnone hlock answer waits
  have hrequest : s.resolveRequest q = s.storeRequest q i :=
    (resolveRequest_inside hphase hadmitted hwindow).trans (resolveInside_of_locked hgoverns hnone hlock)
  refine ⟨fun hwaits => ?pending, fun k hwaits hk hlowest => ?queued, fun hwaits hfull => ?queue_full⟩
  case pending =>
    rw [exec_resolve_of_table_kept hport (hrequest.trans (storeRequest_pending hwaits i)) rfl rfl,
      deliver_of_no_fault rfl]
    rfl
  case queued =>
    rw [exec_resolve_of_table_kept hport (hrequest.trans (storeRequest_queued hwaits hk hlowest i)) rfl rfl,
      deliver_of_no_fault rfl]
    rfl
  case queue_full =>
    rw [exec_resolve_of_table_kept hport (hrequest.trans (storeRequest_queueFull hwaits hfull i)) rfl rfl,
      deliver_of_no_fault rfl]
    rfl

end Sys2Proof.Machine
end

section
/-! SUPPORT. What steps 6 to 9 answer, entry state by entry state, and a RESOLVE they decide (03 R54 to R57). -/

namespace Sys2Proof.Machine

/-! ### Step 6: the entry as read (03 R54) -/

theorem readFails_of_poisoned {s : State} {i : EntryIx} (h : (s.entry i).contents = .poisoned) :
    s.readFails i = false := by
  simp [State.readFails, h]

theorem entryTests_of_fails {s : State} {i : EntryIx} (h : s.readFails i = true) (q : Request) :
    s.entryTests q i =
      (s.poison .resolve i, withEntry .faultedParity ((s.poison .resolve i).entry i).generation i) := by
  have hpoisoned : ((s.poison .resolve i).entry i).contents = .poisoned := by rw [entry_poison]
  unfold State.entryTests
  simp only [readEntry_of_fails h, hpoisoned, h, if_true]

theorem entryTests_poisoned {s : State} {i : EntryIx} (h : (s.entry i).contents = .poisoned) (q : Request) :
    s.entryTests q i = (s, withEntry .faultedPoisoned (s.entry i).generation i) := by
  have hread := readFails_of_poisoned h
  unfold State.entryTests
  simp only [readEntry_of_passes hread, h, hread, Bool.false_eq_true, if_false]

section Read

variable {q : Request} {i : EntryIx} {s : State} (hread : s.readFails i = false)

include hread

theorem entryTests_revoking {p : Placement} (h : (s.entry i).contents = .revoking p) :
    s.entryTests q i = (s, withEntry (.denied .revoking) (s.entry i).generation i) := by
  unfold State.entryTests
  simp only [readEntry_of_passes hread, h]

theorem entryTests_vacant_pass (h : (s.entry i).contents = .vacant)
    (hpass : (s.domainRecord (s.requester q.requester).domain).pass = true) :
    s.entryTests q i =
      (s, ⟨.passed, some (s.settings.snoop, q.address), some (s.entry i).generation, none, some i⟩) := by
  unfold State.entryTests
  simp only [readEntry_of_passes hread, h, hpass, if_true]

theorem entryTests_vacant_deny (h : (s.entry i).contents = .vacant)
    (hdeny : (s.domainRecord (s.requester q.requester).domain).pass = false) :
    s.entryTests q i = (s, withEntry (.denied .vacant) (s.entry i).generation i) := by
  unfold State.entryTests
  simp only [readEntry_of_passes hread, h, hdeny, Bool.false_eq_true, if_false]

/-! ### Steps 7 and 8: domain and access (03 R55, R56) -/

theorem entryTests_domain {p : Placement} (hlive : (s.entry i).contents = .live p)
    (h : ¬ inSet (s.requester q.requester).domain p.domains = true) :
    s.entryTests q i = (s, withEntry (.denied .domain) (s.entry i).generation i) := by
  unfold State.entryTests
  simp only [readEntry_of_passes hread, hlive, Bool.eq_false_iff.2 h, Bool.not_false, if_true]

theorem entryTests_access {p : Placement} (hlive : (s.entry i).contents = .live p)
    (hdomain : inSet (s.requester q.requester).domain p.domains = true) (h : q.dir = .write ∧ p.access = .readOnly) :
    s.entryTests q i = (s, withEntry (.denied .access) (s.entry i).generation i) := by
  unfold State.entryTests
  simp only [readEntry_of_passes hread, hlive, hdomain, Bool.not_true, Bool.false_eq_true, if_false, if_pos h]

end Read

/-! ### Step 9: the claim (03 R57, 04 R68) -/

theorem claimAndGrant_claimLimit {q : Request} {s : State}
    (h : (s.requester q.requester).limit.val ≤ s.holding q.requester) (i : EntryIx) (p : Placement) :
    s.claimAndGrant q i p = (s, withEntry (.denied .claimLimit) (s.entry i).generation i) := by
  unfold State.claimAndGrant
  exact if_pos h

theorem claimAndGrant_claimFull {q : Request} {s : State}
    (hlimit : ¬ (s.requester q.requester).limit.val ≤ s.holding q.requester) (h : ∀ t : Tag, s.claims[t] ≠ .free)
    (i : EntryIx) (p : Placement) :
    s.claimAndGrant q i p = (s, withEntry (.retry .claimFull) (s.entry i).generation i) := by
  have hnone : s.lowestFree = none := find_finRange_none.2 fun t => beq_eq_false_iff_ne.2 (h t)
  unfold State.claimAndGrant
  simp only [if_neg hlimit, hnone]

section Claim

variable {q : Request} {i : EntryIx} {p : Placement} {s : State} (hread : s.readFails i = false)
  (hlive : (s.entry i).contents = .live p) (hdomain : inSet (s.requester q.requester).domain p.domains = true)
  (haccess : ¬ (q.dir = .write ∧ p.access = .readOnly)) (hclaim : q.claim = true)

include hread hlive hdomain haccess hclaim

theorem entryTests_claimLimit (h : (s.requester q.requester).limit.val ≤ s.holding q.requester) :
    s.entryTests q i = (s, withEntry (.denied .claimLimit) (s.entry i).generation i) :=
  (entryTests_claim hread hlive hdomain haccess hclaim).trans (claimAndGrant_claimLimit h i p)

theorem entryTests_claimFull (hlimit : ¬ (s.requester q.requester).limit.val ≤ s.holding q.requester)
    (h : ∀ t : Tag, s.claims[t] ≠ .free) :
    s.entryTests q i = (s, withEntry (.retry .claimFull) (s.entry i).generation i) :=
  (entryTests_claim hread hlive hdomain haccess hclaim).trans (claimAndGrant_claimFull hlimit h i p)

theorem entryTests_claimed {t : Tag} {n : Fin 65}
    (hlimit : ¬ (s.requester q.requester).limit.val ≤ s.holding q.requester) (ht : s.claims[t] = .free)
    (hlowest : ∀ u : Tag, u < t → s.claims[u] ≠ .free) (hn : n.val = (s.entry i).claimCount.val + 1) :
    s.entryTests q i =
      ((s.putClaim t (.active ⟨q.requester, i, (s.entry i).generation, q.dir⟩)).putEntry i
        { s.entry i with claimCount := n }, grantOf q i p (some t) s) :=
  (entryTests_claim hread hlive hdomain haccess hclaim).trans
    (claimAndGrant_of_free (Nat.lt_of_not_le hlimit) ht hlowest hn)

end Claim

/-! ### The RESOLVE (03 R54 to R57, R59) -/

section Reaches

variable {q : Request} {i : EntryIx} {s : State} {a : Response} (hreaches : ReachesEntry q i s)
  (htests : s.entryTests q i = (s, a))

include hreaches htests

/-- An answer of steps 6 to 10 that changed nothing and is no fault changes the port alone. -/
theorem exec_resolve_answered (h : faultOf a.verdict = none) :
    exec (resolveOf q) s = .next { s with port := .answered a } := by
  rw [exec_resolve_of_table_kept hreaches.1.1 ((resolveRequest_of_reachesEntry hreaches).trans htests) rfl rfl,
    deliver_of_no_fault h]

theorem exec_resolve_faulted {f : FaultKind} (h : faultOf a.verdict = some f) :
    exec (resolveOf q) s = .next (State.fault q.requester f { s with port := .answered a }) := by
  rw [exec_resolve_of_table_kept hreaches.1.1 ((resolveRequest_of_reachesEntry hreaches).trans htests) rfl rfl,
    deliver_of_fault h]

end Reaches

/-- Settles O8, entry state by entry state; the poisoning alone can bring about a retake. -/
theorem resolveReadsEntry : Obligations.ResolveReadsEntry := by
  intro q i s hreaches answer g pass
  refine ⟨fun hfails => ?fails, fun hpoisoned => ?poisoned, fun p hread hrevoking => ?revoking,
    fun hread hvacant hpass => ?vacant_pass, fun hread hvacant hdeny => ?vacant_deny⟩
  case fails =>
    rw [exec_resolve_of_reachesEntry hreaches, entryTests_of_fails hfails q, deliver_of_no_fault rfl]
    rfl
  case poisoned => exact exec_resolve_answered hreaches (entryTests_poisoned hpoisoned q) rfl
  case revoking => exact exec_resolve_answered hreaches (entryTests_revoking hread hrevoking) rfl
  case vacant_pass => exact exec_resolve_answered hreaches (entryTests_vacant_pass hread hvacant hpass) rfl
  case vacant_deny => exact exec_resolve_faulted hreaches (entryTests_vacant_deny hread hvacant hdeny) rfl

/-- Settles O7: the first of steps 7 to 9 that fails answers; a denial incurs its fault at the delivery, CLAIM_FULL
none. -/
theorem resolveDenied : Obligations.ResolveDenied := by
  intro q i p s hreaches hread hlive answer inside allowed full
  refine ⟨fun houtside => ?domain, fun hinside hforbidden => ?access, fun hinside hallowed hclaim hfull => ?claim_limit,
    fun hinside hallowed hclaim hbelow hnone => ?claim_full⟩
  case domain => exact exec_resolve_faulted hreaches (entryTests_domain hread hlive houtside) rfl
  case access => exact exec_resolve_faulted hreaches (entryTests_access hread hlive hinside (not_not.1 hforbidden)) rfl
  case claim_limit =>
    exact exec_resolve_faulted hreaches (entryTests_claimLimit hread hlive hinside hallowed hclaim hfull) rfl
  case claim_full =>
    exact exec_resolve_answered hreaches (entryTests_claimFull hread hlive hinside hallowed hclaim hbelow hnone) rfl

end Sys2Proof.Machine
end

section
/-! SUPPORT. The Resolve Port's request and response lines, and its handshake (03 R41 to R47). -/

namespace Sys2Proof.Machine

/-! ### The lines (03 R43, R45, R46) -/

theorem requestOf_resolve (r : BitVec 4) (access claim : BitVec 1) (tag : BitVec 6) (address : BitVec 40) :
    requestOf ⟨1#3, r, access, claim, tag, address⟩ =
      resolveOf ⟨r.toFin, address, if access = 0#1 then .read else .write, decide (claim = 1#1)⟩ := by
  have haccess : (if access = 1#1 then Dir.write else Dir.read) = if access = 0#1 then .read else .write := by
    obtain rfl | rfl : access = 0#1 ∨ access = 1#1 := BitVec.eq_zero_or_eq_one access
    · rfl
    · rfl
  show Instr.resolve _ _ _ _ = Instr.resolve _ _ _ _
  rw [haccess]
  rfl

theorem requestOf_malformed {x : RequestLines} (hresolve : x.kind ≠ 1#3) (hrelease : x.kind ≠ 2#3)
    (hreset : x.kind ≠ 3#3) : requestOf x = .malformedRequest x.kind := by
  unfold requestOf
  rw [if_neg hresolve, if_neg hrelease, if_neg hreset]

theorem responseLines_codes {a : Response} {v : Verdict} (h : a.verdict = v) :
    (responseLines a).outcome = BitVec.ofNat 4 (outcomeCode v)
      ∧ (responseLines a).reason = BitVec.ofNat 5 (reasonCode v) := by
  rw [← h]
  exact ⟨rfl, rfl⟩

theorem responseLines_no_place {a : Response} (h : a.place = none) :
    (responseLines a).addressPresent = 0#1 ∧ (responseLines a).address = 0#40 ∧ (responseLines a).snoop = 0#1 := by
  simp [responseLines, h]

theorem responseLines_place {a : Response} {y : Snoop} {b : Address} (h : a.place = some (y, b)) :
    (responseLines a).addressPresent = 1#1 ∧ (responseLines a).address = b
      ∧ (responseLines a).snoop = if y = .direct then 1#1 else 0#1 := by
  cases y <;> simp [responseLines, h, snoopCode]

theorem responseLines_no_generation {a : Response} (h : a.generation = none) :
    (responseLines a).generationPresent = 0#1 ∧ (responseLines a).generation = 0#16 := by
  simp [responseLines, h]

theorem responseLines_generation {a : Response} {g : Generation} (h : a.generation = some g) :
    (responseLines a).generationPresent = 1#1 ∧ (responseLines a).generation = g := by
  simp [responseLines, h]

theorem responseLines_no_tag {a : Response} (h : a.tag = none) :
    (responseLines a).tagPresent = 0#1 ∧ (responseLines a).tag = 0#6 := by
  simp [responseLines, h]

theorem responseLines_tag {a : Response} {t : Tag} (h : a.tag = some t) :
    (responseLines a).tagPresent = 1#1 ∧ (responseLines a).tag.toNat = t.val := by
  simp [responseLines, h]

theorem responseLines_no_entry {a : Response} (h : a.entry = none) :
    (responseLines a).entryPresent = 0#1 ∧ (responseLines a).entry = 0#12 := by
  simp [responseLines, h]

theorem responseLines_entry {a : Response} {i : EntryIx} (h : a.entry = some i) :
    (responseLines a).entryPresent = 1#1 ∧ (responseLines a).entry.toNat = i.val := by
  simp [responseLines, h]

/-! ### RETRY(STARTING) (03 R47) -/

theorem starting_eq_true {s : State} (h : s.loader.phase ≠ .running) : s.starting = true := bne_iff_ne.2 h

section Starting

variable {s : State} (hport : s.port = .ready) (hphase : s.loader.phase ≠ .running)

include hport hphase

theorem exec_resolve_starting (q : Request) :
    exec (resolveOf q) s = .next { s with port := .answered (bare (.retry .starting)) } := by
  have hrequest : s.resolveRequest q = (s, bare (.retry .starting)) := if_pos (starting_eq_true hphase)
  rw [exec_resolve_of_table_kept hport hrequest rfl rfl, deliver_of_no_fault rfl]

theorem exec_release_starting (r : ReqId) (t : Tag) :
    exec (.release r t) s = .next { s with port := .answered (bare (.retry .starting)) } := by
  show execRelease r t s = _
  unfold execRelease
  rw [if_pos (portReady_eq_true hport), if_pos (starting_eq_true hphase), deliver_of_no_fault rfl]

theorem exec_slotReset_starting (r : ReqId) :
    exec (.slotReset r) s = .next { s with port := .answered (bare (.retry .starting)) } := by
  show execSlotReset r s = _
  unfold execSlotReset
  rw [if_pos (portReady_eq_true hport), if_pos (starting_eq_true hphase), deliver_of_no_fault rfl]

end Starting

/-! ### Malformed requests and RSP_TAKEN (03 R41, R44) -/

theorem exec_malformedRequest {s : State} {kind : BitVec 3} (hport : s.port = .ready) (hresolve : kind ≠ 1#3)
    (hrelease : kind ≠ 2#3) (hreset : kind ≠ 3#3) :
    exec (.malformedRequest kind) s =
      .next (State.report (.portProtocol kind) { s with port := .answered (bare .refusedMalformed) }) :=
  if_pos ⟨portReady_eq_true hport, by simp [hresolve, hrelease, hreset]⟩

theorem exec_rspTaken_answered {s : State} {a : Response} (h : s.port = .answered a) :
    exec .rspTaken s = .next { s with port := .ready } := by
  show execRspTaken s = _
  unfold execRspTaken
  rw [h]

theorem exec_rspTaken_elsewhere {s : State} (h : ∀ a, s.port ≠ .answered a) : exec .rspTaken s = .next s := by
  show execRspTaken s = _
  unfold execRspTaken
  split
  · rename_i a ha
    exact absurd ha (h a)
  · rfl
  · rfl

/-- While the port is not READY no request is taken (log 12). -/
theorem exec_request_not_taken {s : State} (h : s.port ≠ .ready) (q : Request) (t : Tag) (kind : BitVec 3) :
    exec (resolveOf q) s = .next s ∧ exec (.release q.requester t) s = .next s
      ∧ exec (.slotReset q.requester) s = .next s ∧ exec (.malformedRequest kind) s = .next s := by
  have hready : ¬ s.portReady = true := fun hready => h (beq_iff_eq.1 hready)
  exact ⟨if_neg hready, if_neg hready, if_neg hready, if_neg fun hmalformed => hready hmalformed.1⟩

/-- Settles O15: the request lines, the response lines, then the port's events. -/
theorem portHandshake : Obligations.PortHandshake := by
  refine ⟨fun r access claim tag address => ?requests, fun a => ?responses, fun s => ?events⟩
  case requests =>
    exact ⟨requestOf_resolve r access claim tag address, rfl, rfl,
      fun kind => requestOf_malformed (x := ⟨kind, r, access, claim, tag, address⟩)⟩
  case responses =>
    refine ⟨?codes, responseLines_no_place, fun _ _ => responseLines_place, responseLines_no_generation,
      fun _ => responseLines_generation, responseLines_no_tag, fun _ => responseLines_tag, responseLines_no_entry,
      fun _ => responseLines_entry⟩
    and_intros <;> exact responseLines_codes
  case events =>
    exact ⟨fun hport hphase q t => ⟨exec_resolve_starting hport hphase q,
        exec_release_starting hport hphase q.requester t, exec_slotReset_starting hport hphase q.requester⟩,
      fun _ hport => exec_malformedRequest hport, fun _ => exec_rspTaken_answered, exec_rspTaken_elsewhere,
      exec_request_not_taken⟩

end Sys2Proof.Machine
end

section
/-! SUPPORT. The completion of a commit, and the evaluation of the WAITING slots (03 R60, 05 R89, R90, 06 R121). -/

namespace Sys2Proof.Machine

/-! ### The completion (06 R121) -/

theorem exec_commitCompletion {g : Group} {n : Nat} {ops : List BatchOp} {copies : List ValidatedCopy} {t : Tally}
    {s : State} (hs : s.batch.staging = .committing g n ops copies ops.length t) (hlen : copies.length = ops.length) :
    exec .commitCompletion s = .next (settle s (State.evaluateWaiting (s.closeCommit (.ok g ops.length t)))) := by
  show execCommitCompletion s = _
  unfold execCommitCompletion
  rw [hs]
  exact if_pos ⟨hlen, rfl⟩

/-! ### One slot's turn (05 R90) -/

theorem evaluateSlot_of_not_waiting {s : State} {k : SlotIx} (h : isWaiting s.queue[k] = false) :
    s.evaluateSlot k = s := by
  unfold State.evaluateSlot
  split
  · rename_i q i hk
    rw [hk] at h
    contradiction
  · rfl

/-- What a WAITING slot becomes with its result; `discard` is the deadline of a READY slot. -/
def slotAfter (q : Request) (i : EntryIx) (a : Response) (discard : Time) : Slot :=
  if a.verdict = .retry .claimFull then .empty else .ready q i a discard

theorem evaluateSlot_of_waiting {s : State} {k : SlotIx} {q : Request} {i : EntryIx} (h : s.queue[k] = .waiting q i) :
    s.evaluateSlot k = { (s.evaluate q i).1 with
      queue := s.queue.set k (slotAfter q i (s.evaluate q i).2 (s.now + discardNs s.settings.discardTime)) } := by
  unfold State.evaluateSlot slotAfter State.putSlot
  simp only [h, State.evaluate_queue]
  split
  · rfl
  · rfl

theorem isWaiting_slotAfter (q : Request) (i : EntryIx) (a : Response) (discard : Time) :
    isWaiting (slotAfter q i a discard) = false := by
  unfold slotAfter
  split
  · rfl
  · rfl

theorem eq_waiting_of_isWaiting {x : Slot} (h : isWaiting x = true) : ∃ q i, x = .waiting q i := by
  cases x with
  | empty => contradiction
  | waiting q i => exact ⟨q, i, rfl⟩
  | ready q i a d => contradiction

theorem evaluateSlot_slot_self (s : State) (k : SlotIx) : isWaiting (s.evaluateSlot k).queue[k] = false := by
  cases h : isWaiting s.queue[k] with
  | false => rw [evaluateSlot_of_not_waiting h, h]
  | true =>
    obtain ⟨q, i, hk⟩ := eq_waiting_of_isWaiting h
    rw [evaluateSlot_of_waiting hk, set_get_self, isWaiting_slotAfter]

theorem evaluateSlot_slot_ne (s : State) {j k : SlotIx} (hj : j ≠ k) : (s.evaluateSlot k).queue[j] = s.queue[j] := by
  cases h : isWaiting s.queue[k] with
  | false => rw [evaluateSlot_of_not_waiting h]
  | true =>
    obtain ⟨q, i, hk⟩ := eq_waiting_of_isWaiting h
    rw [evaluateSlot_of_waiting hk, set_get_ne _ _ hj]

/-! ### The turns of a list of slots (05 R89) -/

theorem foldl_evaluateSlot_of_not_waiting (l : List SlotIx) {s : State} {j : SlotIx}
    (h : isWaiting s.queue[j] = false) :
    (l.foldl (fun u k => u.evaluateSlot k) s).queue[j] = s.queue[j] := by
  induction l generalizing s with
  | nil => rfl
  | cons k l ih =>
    have hturn : (s.evaluateSlot k).queue[j] = s.queue[j] := by
      by_cases hj : j = k
      · subst hj
        rw [evaluateSlot_of_not_waiting h]
      · exact evaluateSlot_slot_ne s hj
    rw [List.foldl_cons, ih (hturn ▸ h), hturn]

/-- A slot whose turn is among them is not WAITING afterwards. -/
theorem foldl_evaluateSlot_of_mem {l : List SlotIx} {j : SlotIx} (h : j ∈ l) (s : State) :
    isWaiting (l.foldl (fun u k => u.evaluateSlot k) s).queue[j] = false := by
  induction l generalizing s with
  | nil => contradiction
  | cons k l ih =>
    rw [List.foldl_cons]
    by_cases hj : j = k
    · subst hj
      have hself := evaluateSlot_slot_self s j
      rw [foldl_evaluateSlot_of_not_waiting l hself, hself]
    · exact ih (List.mem_of_ne_of_mem hj h) _

/-! ### The evaluation for a waiting slot (03 R60) -/

theorem evaluate_of_denial {q : Request} {s : State} {v : Verdict} (h : s.standingDenial q.requester = some v)
    (i : EntryIx) :
    s.evaluate q i = (s, bare v) := by
  unfold State.evaluate
  rw [h]

theorem evaluate_of_admitted {q : Request} {s : State} (h : Admitted q.requester s) (i : EntryIx) :
    s.evaluate q i = s.entryTests q i := by
  unfold State.evaluate
  rw [standingDenial_of_admitted h]

/-- Settles O26: the completion, the slots' turns, and the evaluation by the steps a RESOLVE takes. -/
theorem commitCompletes : Obligations.CommitCompletes := by
  refine ⟨fun g n ops copies t s hs hlen => exec_commitCompletion hs hlen, fun s => ?turns, fun q i s => ?evaluation⟩
  case turns =>
    refine ⟨rfl, fun k => evaluateSlot_of_not_waiting, fun k q i hk => ⟨fun hfull => ?emptied, fun hresult => ?readied⟩,
      fun k => foldl_evaluateSlot_of_mem (List.mem_finRange k) s, fun k => foldl_evaluateSlot_of_not_waiting _,
      State.evaluateWaiting_port s, State.evaluateWaiting_requesters s⟩
    case emptied => rw [evaluateSlot_of_waiting hk, slotAfter, if_pos hfull]
    case readied => rw [evaluateSlot_of_waiting hk, slotAfter, if_neg hresult]
  case evaluation =>
    intro g bare' answer
    refine ⟨fun hclearing => evaluate_of_denial (standingDenial_of_clearing hclearing) i,
      fun hclearing hstanding => evaluate_of_denial (standingDenial_of_disabled hclearing hstanding) i,
      fun hclearing hstanding => evaluate_of_denial (standingDenial_of_quarantined hclearing hstanding) i,
      fun hadmitted => ?_⟩
    rw [evaluate_of_admitted hadmitted]
    refine ⟨fun hfails => entryTests_of_fails hfails q, fun hpoisoned => entryTests_poisoned hpoisoned q,
      fun hread => ⟨fun p => entryTests_revoking hread, entryTests_vacant_pass hread, entryTests_vacant_deny hread,
        fun p hlive => ?live⟩⟩
    case live =>
      exact ⟨entryTests_domain hread hlive,
        fun hinside hforbidden => entryTests_access hread hlive hinside (not_not.1 hforbidden),
        entryTests_granted hread hlive, entryTests_claimLimit hread hlive, entryTests_claimFull hread hlive,
        fun t n hinside hallowed hclaim => entryTests_claimed hread hlive hinside hallowed hclaim⟩

end Sys2Proof.Machine
end

section
/-! SUPPORT. What an event does to the claim records, the claim counts, the pending slots and the requesters, taken apart
into turns: each command is a chain of turns, so that a law of these fields is proved turn by turn. -/

namespace Sys2Proof.Machine

/-! ### A turn that leaves the claim records -/

/-- The Grant Table stays canonical and every claim count stands (01 R12). -/
def KeepsCounts (s t : State) : Prop :=
  Canonical s → Canonical t ∧ ∀ i, (t.entry i).claimCount = (s.entry i).claimCount

theorem keepsCounts_of_entries {s t : State} (h : t.store.entries = s.store.entries) : KeepsCounts s t :=
  fun hs => ⟨canonical_congr h hs, fun i => by rw [State.entry_congr h]⟩

/-- A write of one entry that keeps its claim count. -/
theorem keepsCounts_putEntry {s : State} {i : EntryIx} {e : GrantEntry}
    (he : Canonical s → e.claimCount = (s.entry i).claimCount) : KeepsCounts s (s.putEntry i e) := by
  refine fun hs => ⟨canonical_putEntry hs i e, fun j => ?_⟩
  by_cases hj : j = i
  · rw [hj, State.entry_putEntry_self hs, he hs]
  · rw [State.entry_putEntry_ne s e hj]

theorem KeepsCounts.trans {s t u : State} (hst : KeepsCounts s t) (htu : KeepsCounts t u) : KeepsCounts s u := by
  intro hs
  obtain ⟨ht, hcount⟩ := hst hs
  obtain ⟨hu, hcount'⟩ := htu ht
  exact ⟨hu, fun i => (hcount' i).trans (hcount i)⟩

/-- In RELOADING the loader is at the Preload section (12 R189). -/
def ReloadsPreload (s : State) : Prop := s.loader.phase = .reloading → ∃ w l k, s.loader.work = .preload w l k

/-- A slot that changes carries no tag afterwards; the request it then holds it held before, or is one of a requester that
is not under clearing. -/
def SlotQuiet (s t : State) (k : SlotIx) : Prop :=
  t.queue[k] = s.queue[k]
    ∨ slotTag t.queue[k] = none ∧ ∀ q, slotRequest t.queue[k] = some q →
        slotRequest s.queue[k] = some q ∨ (t.requester q.requester).clearing = none

/-- A requester becomes DISABLED only where no record in use names it, or by the load of the image (02 R34, R39, 12 R185). -/
def StandingQuiet (s t : State) (r : ReqId) : Prop :=
  (t.requester r).standing = .disabled →
    (s.requester r).standing = .disabled ∨ s.lowestOf r = none ∨ s.loader.phase = .loading ∨ ¬ ReloadsPreload s

/-- The claim records and counts stand, no slot comes to carry a tag, no clearing begins, and the part does not begin to
start. -/
structure Quiet (s t : State) : Prop where
  claims : t.claims = s.claims
  counts : KeepsCounts s t
  slots : ∀ k, SlotQuiet s t k
  standing : ∀ r, StandingQuiet s t r
  clearing : ∀ r, (s.requester r).clearing = none → (t.requester r).clearing = none
  phase : t.loader.phase = s.loader.phase ∧ (ReloadsPreload s → ReloadsPreload t) ∨ t.loader.phase = .running
  staging : s.batch.staging = .idle → t.batch.staging = .idle ∨ t.loader.phase = .running

/-- The live records stand. -/
theorem standingQuiet_of_live {s t : State} (h : t.requesters.live = s.requesters.live) (r : ReqId) :
    StandingQuiet s t r := by
  intro hr
  unfold State.requester at hr ⊢
  rw [h] at hr
  exact .inl hr

theorem clearing_of_live {s t : State} (h : t.requesters.live = s.requesters.live) (r : ReqId)
    (hr : (s.requester r).clearing = none) : (t.requester r).clearing = none := by
  unfold State.requester at hr ⊢
  rw [h]
  exact hr

theorem phase_of_loader {s t : State} (h : t.loader = s.loader) :
    t.loader.phase = s.loader.phase ∧ (ReloadsPreload s → ReloadsPreload t) := by
  unfold ReloadsPreload
  rw [h]
  exact ⟨rfl, id⟩

/-- An operation on other fields, the table's contents and the Staging Buffer in RUNNING or to IDLE among them, is quiet. -/
theorem quiet_of_frame {s t : State} (hclaims : t.claims = s.claims) (hqueue : t.queue = s.queue)
    (hlive : t.requesters.live = s.requesters.live) (hloader : t.loader = s.loader) (hcounts : KeepsCounts s t)
    (hstaging : s.batch.staging = .idle → t.batch.staging = .idle ∨ t.loader.phase = .running) : Quiet s t where
  claims := hclaims
  counts := hcounts
  slots _ := .inl (by rw [hqueue])
  standing := standingQuiet_of_live hlive
  clearing := clearing_of_live hlive
  phase := .inl (phase_of_loader hloader)
  staging := hstaging

/-- The claim of a granted RESOLVE: the record becomes ACTIVE and the entry's claim count rises (03 R58, 04 R68). -/
def State.grantClaim (q : Request) (i : EntryIx) (t : Tag) (s : State) : State :=
  (s.putClaim t (.active ⟨q.requester, i, (s.entry i).generation, q.dir⟩)).raiseCount i

/-- One turn of an event. `ok` says in which phases the event may grant a claim. -/
inductive Turn (ok : Phase → Prop) : State → State → Prop
  /-- Nothing happens to the claims. -/
  | quiet {s t : State} (h : Quiet s t) : Turn ok s t
  /-- A claim is granted with the answer delivered at once (03 R58). -/
  | granted {s : State} {q : Request} {t : Tag} (i : EntryIx) (hfree : s.claims[t] = .free)
      (hadmitted : Admitted q.requester s) (hphase : ok s.loader.phase) : Turn ok s (s.grantClaim q i t)
  /-- A claim is granted and its tag stored with the answer in a WAITING slot (05 R90). -/
  | stored {s : State} {q : Request} {i : EntryIx} {t : Tag} {a : Response} (k : SlotIx) (d : Time)
      (hfree : s.claims[t] = .free) (hadmitted : Admitted q.requester s) (hphase : ok s.loader.phase)
      (htag : a.tag = some t) : Turn ok s ((s.grantClaim q i t).putSlot k (.ready q i a d))
  /-- A record is freed that no slot carries, where the law of carried tags holds (04 R78). -/
  | freed {s : State} {t : Tag} (h : CarriedLaw s → ∀ k : SlotIx, slotTag s.queue[k] ≠ some t) : Turn ok s (s.freeClaim t)
  /-- A slot is emptied with the claim it carries (05 R98). -/
  | dropped {s : State} (k : SlotIx) : Turn ok s (s.dropSlot k)
  /-- A requester clearing is accepted (02 R37). -/
  | clearing {s : State} (r : ReqId) (x : Clearing) : Turn ok s (s.acceptClearing r x)
  /-- A drain ends at its deadline or by force (07 R132, R133). -/
  | drained {s : State} (i : EntryIx) : Turn ok s (s.endDrain i)
  /-- A full reset begins (12 R187). -/
  | fullReset {s : State} (r : CommitResult) (x : Transaction) : Turn ok s (s.fullReset r x)
  /-- A table reset is accepted (12 R188). -/
  | tableReset {s : State} (h : NoOpenBatch s) : Turn ok s s.acceptTableReset

/-- A chain of turns. -/
abbrev Turns (ok : Phase → Prop) : State → State → Prop := Relation.ReflTransGen (Turn ok)

theorem turns_of_quiet {ok : Phase → Prop} {s t : State} (h : Quiet s t) : Turns ok s t := .single (.quiet h)

/-- One chain after another. -/
theorem Turns.trans {ok : Phase → Prop} {s t u : State} (hst : Turns ok s t) (htu : Turns ok t u) : Turns ok s u :=
  Relation.ReflTransGen.trans hst htu

/-- A chain goes on with a quiet turn. -/
theorem Turns.thenQuiet {ok : Phase → Prop} {s t u : State} (h : Turns ok s t) (hq : Quiet t u) : Turns ok s u :=
  h.tail (.quiet hq)

/-- What every turn keeps, a chain of turns keeps. -/
theorem kept_of_turns {ok : Phase → Prop} {P : State → Prop} (hP : ∀ {s t}, Turn ok s t → P s → P t) {s t : State}
    (h : Turns ok s t) (hs : P s) : P t := by
  induction h with
  | refl => exact hs
  | tail _ hturn ih => exact hP hturn ih

end Sys2Proof.Machine
end

section
/-! SUPPORT. Every turn keeps each claim count equal to the number of ACTIVE records on the entry (04 R67). -/

namespace Sys2Proof.Machine

/-! ### Counting over the tags -/

/-- A property that changes at one index alone, from true to false, holds at one index less. -/
theorem countP_finRange_succ {n : Nat} {p p' : Fin n → Bool} {x : Fin n} (hx : p x = true) (hx' : p' x = false)
    (h : ∀ y, y ≠ x → p' y = p y) : (List.finRange n).countP p' + 1 = (List.finRange n).countP p := by
  have hperm := List.perm_cons_erase (List.mem_finRange x)
  rw [hperm.countP_eq p, hperm.countP_eq p', List.countP_cons_of_pos hx, List.countP_cons_of_neg (by simp [hx'])]
  congr 1
  refine List.countP_congr fun y hy => ?_
  rw [h y (((List.nodup_finRange n).mem_erase_iff).1 hy).1]

/-- The number of ACTIVE records naming the entry (04 R67). -/
def State.activeCount (s : State) (i : EntryIx) : Nat := (List.finRange 64).countP (fun t => activeOn i s.claims[t])

theorem countLaw_iff (s : State) : CountLaw s ↔ Canonical s ∧ ∀ i, (s.entry i).claimCount.val = s.activeCount i := Iff.rfl

theorem activeCount_congr {s t : State} {i : EntryIx} (h : ∀ x : Tag, activeOn i t.claims[x] = activeOn i s.claims[x]) :
    t.activeCount i = s.activeCount i := by
  unfold State.activeCount
  exact List.countP_congr fun x _ => by rw [h x]

/-- A record that stops being ACTIVE on the entry is one less. -/
theorem activeCount_set_of_active {s t : State} {x : Tag} {c : ClaimRecord} {i : EntryIx}
    (hclaims : t.claims = s.claims.set x c) (hx : activeOn i s.claims[x] = true) (hc : activeOn i c = false) :
    t.activeCount i + 1 = s.activeCount i := by
  unfold State.activeCount
  rw [hclaims]
  exact countP_finRange_succ hx (by rw [set_get_self, hc]) fun y hy => by rw [set_get_ne _ _ hy]

/-- A record replaced by one that is ACTIVE on the entry as little as it was. -/
theorem activeCount_set_of_same {s t : State} {x : Tag} {c : ClaimRecord} {i : EntryIx}
    (hclaims : t.claims = s.claims.set x c) (h : activeOn i c = activeOn i s.claims[x]) :
    t.activeCount i = s.activeCount i := by
  refine activeCount_congr fun y => ?_
  rw [hclaims]
  by_cases hy : y = x
  · rw [hy, set_get_self, h]
  · rw [set_get_ne _ _ hy]

theorem activeCount_eq_zero {s : State} {i : EntryIx} (h : ∀ x : Tag, activeOn i s.claims[x] = false) :
    s.activeCount i = 0 := List.countP_eq_zero.2 fun x _ => Bool.eq_false_iff.1 (h x)

/-! ### Turn by turn -/

theorem countLaw_of_quiet {s t : State} (h : Quiet s t) (hs : CountLaw s) : CountLaw t := by
  obtain ⟨hcanonical, hcount⟩ := (countLaw_iff s).1 hs
  obtain ⟨hcanonical', hcount'⟩ := h.counts hcanonical
  refine (countLaw_iff t).2 ⟨hcanonical', fun i => ?_⟩
  rw [hcount', hcount, activeCount_congr fun x => by rw [h.claims]]

theorem countLaw_freeClaim {s : State} (hs : CountLaw s) (t : Tag) : CountLaw (s.freeClaim t) := by
  obtain ⟨hcanonical, hcount⟩ := (countLaw_iff s).1 hs
  refine (countLaw_iff _).2 ⟨canonical_freeClaim hcanonical t, fun i => ?_⟩
  have hclaims := freeClaim_claims t s
  by_cases hi : activeOn i s.claims[t] = true
  · have hactive := activeCount_set_of_active hclaims hi rfl
    have hlower := claimCount_freeClaim_active hcanonical hi (by rw [hcount]; omega)
    rw [hcount] at hlower
    omega
  · have hother := Bool.eq_false_iff.2 hi
    rw [claimCount_freeClaim_other hcanonical hother, hcount, activeCount_set_of_same hclaims hother.symm]

/-- A slot is no matter of the count law. -/
theorem countLaw_putSlot {s : State} (hs : CountLaw s) (k : SlotIx) (x : Slot) : CountLaw (s.putSlot k x) := hs

theorem countLaw_dropSlot {s : State} (hs : CountLaw s) (k : SlotIx) : CountLaw (s.dropSlot k) := by
  unfold State.dropSlot
  split
  · exact countLaw_freeClaim (countLaw_putSlot hs k .empty) _
  · exact countLaw_putSlot hs k .empty

theorem countLaw_acceptClearing {s : State} (hs : CountLaw s) (r : ReqId) (x : Clearing) :
    CountLaw (s.acceptClearing r x) := by
  rw [acceptClearing_eq]
  refine State.foldl_keeps (p := CountLaw) (fun u k hu => ?_) _ hs
  by_cases hk : Owns r u k
  · rw [dropIfOwned_of_owns hk]
    exact countLaw_dropSlot hu k
  · rw [dropIfOwned_of_not_owns hk]
    exact hu

/-- Below 64 a raised count takes no free value (04 R68). -/
theorem raised_val {c : Fin 65} (h : c.val < 64) (free : Nat) : (raised c free).val = c.val + 1 := by
  unfold raised
  rw [dif_pos h]

theorem claimCount_grantClaim {s : State} (h : Canonical s) (q : Request) (i : EntryIx) (t : Tag) (j : EntryIx) :
    ((s.grantClaim q i t).entry j).claimCount =
      if j = i then raised (s.entry i).claimCount s.free else (s.entry j).claimCount := by
  have hentry : (s.grantClaim q i t).entry j =
      (s.putEntry i { s.entry i with claimCount := raised (s.entry i).claimCount s.free }).entry j := rfl
  rw [hentry]
  by_cases hj : j = i
  · rw [if_pos hj, hj, State.entry_putEntry_self h]
  · rw [if_neg hj, State.entry_putEntry_ne s _ hj]

theorem grantClaim_claims (q : Request) (i : EntryIx) (t : Tag) (s : State) : (s.grantClaim q i t).claims =
    s.claims.set t (.active ⟨q.requester, i, (s.entry i).generation, q.dir⟩) := rfl

theorem countLaw_grantClaim {s : State} (hs : CountLaw s) {q : Request} {t : Tag} (i : EntryIx)
    (hfree : s.claims[t] = .free) : CountLaw (s.grantClaim q i t) := by
  obtain ⟨hcanonical, hcount⟩ := (countLaw_iff s).1 hs
  refine (countLaw_iff _).2
    ⟨canonical_raiseCount (canonical_of_store (State.putClaim_store _ _ _) hcanonical) i, fun j => ?_⟩
  have hclaims := grantClaim_claims q i t s
  rw [claimCount_grantClaim hcanonical]
  by_cases hj : j = i
  · subst hj
    have hback : s.claims = (s.grantClaim q j t).claims.set t .free := by
      rw [hclaims, Vector.set_set, ← hfree]
      exact (Vector.set_getElem_self _).symm
    have hmore := activeCount_set_of_active (s := s.grantClaim q j t) (i := j) hback
      (by rw [hclaims, set_get_self]; exact beq_self_eq_true j) rfl
    have hle : (s.grantClaim q j t).activeCount j ≤ 64 := List.countP_le_length
    have hraised := raised_val (c := (s.entry j).claimCount) (by rw [hcount]; omega) s.free
    rw [if_pos rfl, hraised, hcount]
    exact hmore
  · have hsame : activeOn j (.active ⟨q.requester, i, (s.entry i).generation, q.dir⟩) = activeOn j s.claims[t] := by
      rw [hfree]
      exact beq_eq_false_iff_ne.2 (Ne.symm hj)
    rw [if_neg hj, hcount, activeCount_set_of_same hclaims hsame]

end Sys2Proof.Machine
end

section
/-! SUPPORT. What the end of a drain and the two resets do to claim records, slots and entries (07 R132, 12 R187, R188). -/

namespace Sys2Proof.Machine

/-! ### The end of a drain (07 R132, R133) -/

/-- A record naming the entry is freed where a slot carries it, and otherwise ORPHANED. -/
theorem endDrain_claim (i : EntryIx) (s : State) (t : Tag) : (s.endDrain i).claims[t] =
    if namesEntry i s.claims[t] then (if (s.carrier t).isSome then .free else orphan s.claims[t]) else s.claims[t] := by
  have hclaim : (s.endDrain i).claims[t] =
      if s.carriedOn i t then .free else if s.orphanedBy i t then orphan s.claims[t] else s.claims[t] := by
    simp [State.endDrain]
  rw [hclaim]
  unfold State.carriedOn State.orphanedBy State.carriedOn
  cases hc : s.claims[t] with
  | free => simp [namesEntry, claimOf]
  | active c => by_cases hci : c.entry = i <;> cases (s.carrier t).isSome <;> simp [namesEntry, claimOf, hci]
  | orphaned c => cases (s.carrier t).isSome <;> simp [orphan]

/-- A slot whose tag's record names the entry is emptied. -/
theorem endDrain_slot (i : EntryIx) (s : State) (k : SlotIx) : (s.endDrain i).queue[k] =
    if ∃ t, slotTag s.queue[k] = some t ∧ namesEntry i s.claims[t] = true then .empty else s.queue[k] := by
  cases htag : slotTag s.queue[k.val] with
  | none => simp [State.endDrain, htag]
  | some t => simp [State.endDrain, htag]

theorem endDrain_claimCount {s : State} (h : Canonical s) (i j : EntryIx) :
    ((s.endDrain i).entry j).claimCount = if j = i then 0 else (s.entry j).claimCount := by
  have hentry : (s.endDrain i).entry j =
      (s.putEntry i { replaceEntry (s.entry i) .vacant with claimCount := 0 }).entry j := rfl
  rw [hentry]
  by_cases hj : j = i
  · rw [if_pos hj, hj, State.entry_putEntry_self h]
  · rw [if_neg hj, State.entry_putEntry_ne s _ hj]

theorem namesEntry_of_activeOn {i : EntryIx} {c : ClaimRecord} (h : activeOn i c = true) : namesEntry i c = true := by
  cases c with
  | free => contradiction
  | active x => exact h
  | orphaned x => contradiction

theorem activeOn_orphan (i : EntryIx) (c : ClaimRecord) : activeOn i (orphan c) = false := by
  cases c <;> rfl

/-- No record stays ACTIVE on the entry, and the ACTIVE records on the others stay. -/
theorem activeOn_endDrain (i j : EntryIx) (s : State) (t : Tag) :
    activeOn j (s.endDrain i).claims[t] = (activeOn j s.claims[t] && decide (j ≠ i)) := by
  rw [endDrain_claim]
  by_cases hi : namesEntry i s.claims[t] = true
  · have hgone : activeOn j (if (s.carrier t).isSome then .free else orphan s.claims[t]) = false := by
      split
      · rfl
      · exact activeOn_orphan j _
    rw [if_pos hi, hgone, eq_comm, Bool.and_eq_false_imp]
    intro hj
    have hji : j = i := by
      cases hc : s.claims[t] with
      | free => rw [hc] at hj; contradiction
      | active c => rw [hc] at hi hj; exact (beq_iff_eq.1 hj).symm.trans (beq_iff_eq.1 hi)
      | orphaned c => rw [hc] at hj; contradiction
    simp [hji]
  · rw [if_neg hi]
    by_cases hji : j = i
    · have hnot : activeOn j s.claims[t] = false :=
        Bool.eq_false_iff.2 fun hj => hi (hji ▸ namesEntry_of_activeOn hj)
      rw [hnot, Bool.false_and]
    · simp [hji]

/-! ### The walk is cancelled (09 R161, R163) -/

theorem reopen_domainRecord_pass (k : WalkKind) (s : State) (d : Domain) :
    ((s.reopen k).domainRecord d).pass = (s.domainRecord d).pass := by
  cases k with
  | scrub => rfl
  | domainSweep x =>
    by_cases hd : d = x
    · subst hd
      exact (congrArg DomainRecord.pass (set_get_self s.requesters.domains d _)).trans rfl
    · exact congrArg DomainRecord.pass (set_get_ne s.requesters.domains _ hd)

/-- The other domains stand. -/
theorem reopen_domainRecord_other {k : WalkKind} {d : Domain} (h : k ≠ .domainSweep d) (s : State) :
    (s.reopen k).domainRecord d = s.domainRecord d := by
  cases k with
  | scrub => rfl
  | domainSweep x => exact set_get_ne s.requesters.domains _ fun hd => h (hd ▸ rfl)

/-- The domain of a sweep becomes OPEN. -/
theorem reopen_domainRecord_closing (d : Domain) (s : State) :
    ((s.reopen (.domainSweep d)).domainRecord d).closing = false :=
  congrArg DomainRecord.closing (set_get_self s.requesters.domains d _)

theorem cancelWalk_of_idle {s : State} (h : s.sweep.walk = none) : s.cancelWalk = s := by
  unfold State.cancelWalk
  rw [h]

theorem cancelWalk_of_walking {s : State} {w : Walk} (h : s.sweep.walk = some w) : s.cancelWalk = { s with
    requesters := (s.reopen w.kind).requesters
    sweep := ⟨none, s.sweep.result.map (fun r => { r with ending := .cancelled })⟩
    errors := raiseEvent .sweepDone s.errors } := by
  obtain ⟨_, hreopen⟩ := State.reopen_shape w.kind s
  unfold State.cancelWalk
  rw [h]
  dsimp only [State.endWalk]
  rw [hreopen]
  rfl

/-- What a cancelled walk leaves: the records of the requesters, the miss policies and the error records. -/
theorem cancelWalk_keeps (s : State) :
    s.cancelWalk.sweep.walk = none ∧ (∀ d, (s.cancelWalk.domainRecord d).pass = (s.domainRecord d).pass)
      ∧ s.cancelWalk.requesters.live = s.requesters.live ∧ s.cancelWalk.requesters.defaults = s.requesters.defaults
      ∧ s.cancelWalk.errors.first = s.errors.first ∧ s.cancelWalk.errors.next = s.errors.next
      ∧ s.cancelWalk.errors.override = s.errors.override
      ∧ s.cancelWalk.errors.alertAsserted = s.errors.alertAsserted := by
  cases hw : s.sweep.walk with
  | none =>
    rw [cancelWalk_of_idle hw]
    exact ⟨hw, fun _ => rfl, rfl, rfl, rfl, rfl, rfl, rfl⟩
  | some w =>
    have hlive : (s.reopen w.kind).requesters.live = s.requesters.live := endWalk_live w .cancelled s
    have hdefaults : (s.reopen w.kind).requesters.defaults = s.requesters.defaults := endWalk_defaults w .cancelled s
    rw [cancelWalk_of_walking hw]
    exact ⟨rfl, reopen_domainRecord_pass w.kind s, hlive, hdefaults, rfl, rfl, rfl, rfl⟩

/-! ### Table reset (12 R188) -/

/-- A commit in progress is abandoned (06 R123). -/
def abandonedBatch (b : BatchUnit) : BatchUnit :=
  match b.staging with
  | .committing g _ ops _ _ _ => { b with staging := .idle, result := .abandoned g ops.length }
  | _ => b

theorem abandonCommit_eq (s : State) :
    s.abandonCommit = { s with store := { s.store with lockMark := none }, batch := abandonedBatch s.batch } := by
  unfold State.abandonCommit abandonedBatch
  cases hs : s.batch.staging with
  | committing g n ops copies k t => rfl
  | idle => rfl
  | loading g n ops => rfl
  | loaded g n ops => rfl

/-- A table reset without the end of the walk. -/
def State.resetTables (s : State) : State :=
  { s with
    store := { s.store with entries := [], lockMark := none }
    claims := tabulate s.claimAfterTableReset
    queue := PendingQueue.reset
    batch := abandonedBatch s.batch
    drain := []
    loader := { s.loader with
      phase := .reloading
      flags := { s.loader.flags with preloadSkipped := false }
      work := .preload (capturedWords (State.nvm { s with loads := s.loads + 1 }) s.loader.capture) [] 0 }
    loads := s.loads + 1 }

/-- The end of the walk can come last: it touches no table. -/
theorem acceptTableReset_eq_cancelWalk (s : State) : s.acceptTableReset = s.resetTables.cancelWalk := by
  unfold State.acceptTableReset
  dsimp only
  rw [abandonCommit_eq]
  unfold State.cancelWalk State.resetTables
  dsimp only
  cases hw : s.sweep.walk with
  | none => rfl
  | some w =>
    cases hk : w.kind with
    | domainSweep d => simp only [State.endWalk, State.reopen, hk]; rfl
    | scrub => simp only [State.endWalk, State.reopen, hk]; rfl

/-- The acceptance is the reset of the tables, and in requesters, sweep and errors the end of the walk. -/
theorem acceptTableReset_eq (s : State) : s.acceptTableReset = { s.resetTables with
    requesters := s.cancelWalk.requesters, sweep := s.cancelWalk.sweep, errors := s.cancelWalk.errors } := by
  rw [acceptTableReset_eq_cancelWalk]
  cases hw : s.sweep.walk with
  | none =>
    rw [cancelWalk_of_idle hw, cancelWalk_of_idle (s := s.resetTables) hw]
    rfl
  | some w =>
    rw [cancelWalk_of_walking hw, cancelWalk_of_walking (s := s.resetTables) hw]
    cases w.kind with
    | domainSweep d => rfl
    | scrub => rfl

theorem acceptTableReset_claim (s : State) (t : Tag) :
    s.acceptTableReset.claims[t] = if (s.carrier t).isSome then .free else orphan s.claims[t] := by
  rw [acceptTableReset_eq]
  show (tabulate s.claimAfterTableReset)[t] = _
  simp [State.claimAfterTableReset]

theorem acceptTableReset_slot (s : State) (k : SlotIx) : s.acceptTableReset.queue[k] = .empty := by
  rw [acceptTableReset_eq]
  show PendingQueue.reset[k] = _
  simp [PendingQueue.reset]

theorem acceptTableReset_entry (s : State) (i : EntryIx) : s.acceptTableReset.entry i = clearedEntry := by
  rw [acceptTableReset_eq]
  rfl

theorem acceptTableReset_requester (s : State) (r : ReqId) : s.acceptTableReset.requester r = s.requester r := by
  obtain ⟨_, _, hlive, _⟩ := cancelWalk_keeps s
  rw [acceptTableReset_eq]
  exact congrArg (fun v : Vector Requester 16 => v[r]) hlive

theorem acceptTableReset_loader (s : State) : s.acceptTableReset.loader = s.resetTables.loader := by
  rw [acceptTableReset_eq]

theorem acceptTableReset_batch (s : State) : s.acceptTableReset.batch = abandonedBatch s.batch := by
  rw [acceptTableReset_eq]
  rfl

/-! ### Full reset (12 R187) -/

theorem fullReset_claim (r : CommitResult) (x : Transaction) (s : State) (t : Tag) :
    (s.fullReset r x).claims[t] = .free := by
  show ClaimRegister.reset[t] = _
  simp [ClaimRegister.reset]

theorem fullReset_slot (r : CommitResult) (x : Transaction) (s : State) (k : SlotIx) :
    (s.fullReset r x).queue[k] = .empty := by
  show PendingQueue.reset[k] = _
  simp [PendingQueue.reset]

end Sys2Proof.Machine
end

section
/-! SUPPORT. Every turn keeps the count law, the law of DISABLED requesters and the law of carried tags (04 R67, R70). -/

namespace Sys2Proof.Machine

/-! ### Claim counts (04 R67) -/

theorem countLaw_endDrain {s : State} (hs : CountLaw s) (i : EntryIx) : CountLaw (s.endDrain i) := by
  obtain ⟨hcanonical, hcount⟩ := (countLaw_iff s).1 hs
  refine (countLaw_iff _).2 ⟨canonical_endDrain hcanonical i, fun j => ?_⟩
  rw [endDrain_claimCount hcanonical]
  by_cases hj : j = i
  · have hnone : (s.endDrain i).activeCount j = 0 :=
      activeCount_eq_zero fun t => by rw [activeOn_endDrain, decide_eq_false (not_not.2 hj), Bool.and_false]
    rw [if_pos hj, hnone]
    rfl
  · have hsame : (s.endDrain i).activeCount j = s.activeCount j :=
      activeCount_congr fun t => by rw [activeOn_endDrain, decide_eq_true hj, Bool.and_true]
    rw [if_neg hj, hcount, hsame]

/-- With no entry listed and no record ACTIVE every count is 0. -/
theorem countLaw_of_cleared {s : State} (hcanonical : Canonical s) (hentry : ∀ i, s.entry i = clearedEntry)
    (hclaims : ∀ (i : EntryIx) (t : Tag), activeOn i s.claims[t] = false) : CountLaw s :=
  (countLaw_iff s).2 ⟨hcanonical, fun i => by rw [hentry, activeCount_eq_zero (hclaims i)]; rfl⟩

theorem countLaw_fullReset (s : State) (r : CommitResult) (x : Transaction) : CountLaw (s.fullReset r x) :=
  countLaw_of_cleared (canonical_fullReset s r x) entry_reset fun i t => by rw [fullReset_claim]; rfl

theorem countLaw_acceptTableReset (s : State) : CountLaw s.acceptTableReset := by
  refine countLaw_of_cleared (canonical_acceptTableReset s) (acceptTableReset_entry s) fun i t => ?_
  rw [acceptTableReset_claim]
  split
  · rfl
  · exact activeOn_orphan i _

theorem countLaw_turn {ok : Phase → Prop} {s t : State} (h : Turn ok s t) (hs : CountLaw s) : CountLaw t := by
  cases h with
  | quiet h => exact countLaw_of_quiet h hs
  | granted i hfree _ _ => exact countLaw_grantClaim hs i hfree
  | stored k d hfree _ _ _ => exact countLaw_putSlot (countLaw_grantClaim hs _ hfree) k _
  | freed _ => exact countLaw_freeClaim hs _
  | dropped k => exact countLaw_dropSlot hs k
  | clearing r x => exact countLaw_acceptClearing hs r x
  | drained i => exact countLaw_endDrain hs i
  | fullReset r x => exact countLaw_fullReset s r x
  | tableReset _ => exact countLaw_acceptTableReset s

/-! ### DISABLED requesters (04 R67) -/

/-- No record names what it did not name before. -/
def ClaimsShrink (s t : State) : Prop := ∀ (x : Tag) c, claimOf t.claims[x] = some c → claimOf s.claims[x] = some c

theorem ClaimsShrink.free {s t : State} (h : ClaimsShrink s t) {x : Tag} (hx : s.claims[x] = .free) :
    t.claims[x] = .free := by
  cases hc : t.claims[x] with
  | free => rfl
  | active c => simpa [hx, claimOf] using h x c (by rw [hc]; rfl)
  | orphaned c => simpa [hx, claimOf] using h x c (by rw [hc]; rfl)

theorem claimOf_orphan (c : ClaimRecord) : claimOf (orphan c) = claimOf c := by
  cases c <;> rfl

theorem claimsShrink_freeClaim (s : State) (t : Tag) : ClaimsShrink s (s.freeClaim t) := by
  intro x c hx
  rw [freeClaim_claims] at hx
  by_cases hxt : x = t
  · rw [hxt, set_get_self] at hx
    contradiction
  · rwa [set_get_ne _ _ hxt] at hx

theorem claimsShrink_dropSlot (s : State) (k : SlotIx) : ClaimsShrink s (s.dropSlot k) := by
  intro x c hx
  rw [dropSlot_claim] at hx
  split at hx
  · contradiction
  · exact hx

theorem claimsShrink_acceptClearing (s : State) (r : ReqId) (y : Clearing) : ClaimsShrink s (s.acceptClearing r y) := by
  intro x c hx
  rw [acceptClearing_claim] at hx
  split at hx
  · contradiction
  · exact hx

theorem claimsShrink_endDrain (s : State) (i : EntryIx) : ClaimsShrink s (s.endDrain i) := by
  intro x c hx
  rw [endDrain_claim] at hx
  split at hx
  · split at hx
    · contradiction
    · rwa [claimOf_orphan] at hx
  · exact hx

theorem claimsShrink_acceptTableReset (s : State) : ClaimsShrink s s.acceptTableReset := by
  intro x c hx
  rw [acceptTableReset_claim] at hx
  split at hx
  · contradiction
  · rwa [claimOf_orphan] at hx

/-- A requester that no record names as the lowest is named by none (04 R79). -/
theorem requester_ne_of_lowestOf_none {s : State} {r : ReqId} (h : s.lowestOf r = none) {t : Tag} {c : Claim}
    (hc : claimOf s.claims[t] = some c) : c.requester ≠ r := by
  intro hr
  have ht : namesRequester r s.claims[t] = false := find_finRange_none.1 h t
  unfold namesRequester at ht
  rw [hc] at ht
  exact beq_eq_false_iff_ne.1 ht hr

/-- Records shrink, standings, phase and batch stand. -/
theorem disabledLaw_of_shrink {s t : State} (hs : DisabledLaw s) (hclaims : ClaimsShrink s t)
    (hstanding : ∀ r, (t.requester r).standing = (s.requester r).standing) (hloader : t.loader = s.loader)
    (hbatch : t.batch = s.batch) : DisabledLaw t := by
  obtain ⟨hnamed, hloading, hidle, hpreload⟩ := hs
  refine ⟨fun x c hx => ?_, ?_, ?_, ?_⟩
  · rw [hstanding]
    exact hnamed x c (hclaims x c hx)
  · rw [hloader]
    exact fun hphase x => hclaims.free (hloading hphase x)
  · rw [hloader, hbatch]
    exact hidle
  · rw [hloader]
    exact hpreload

theorem disabledLaw_of_quiet {s t : State} (h : Quiet s t) (hs : DisabledLaw s) : DisabledLaw t := by
  obtain ⟨hnamed, hloading, hidle, hpreload⟩ := hs
  refine ⟨fun x c hx hdisabled => ?_, fun hphase x => ?_, fun hphase => ?_, fun hphase => ?_⟩
  · rw [h.claims] at hx
    rcases h.standing c.requester hdisabled with hwas | hnone | hload | hreload
    · exact hnamed x c hx hwas
    · exact requester_ne_of_lowestOf_none hnone hx rfl
    · rw [hloading hload x] at hx
      contradiction
    · exact hreload hpreload
  · rw [h.claims]
    rcases h.phase with ⟨hsame, _⟩ | hrunning
    · exact hloading (hsame ▸ hphase) x
    · simp [hphase] at hrunning
  · rcases h.phase with ⟨hsame, _⟩ | hrunning
    · exact (h.staging (hidle (hsame ▸ hphase))).resolve_right hphase
    · exact absurd hrunning hphase
  · rcases h.phase with ⟨_, hkeeps⟩ | hrunning
    · exact hkeeps hpreload hphase
    · simp [hphase] at hrunning

/-- A requester that is ENABLED is granted a claim in RUNNING. -/
theorem disabledLaw_grantClaim {s : State} (hs : DisabledLaw s) {q : Request} (i : EntryIx) (t : Tag)
    (hadmitted : Admitted q.requester s) (hphase : s.loader.phase = .running) : DisabledLaw (s.grantClaim q i t) := by
  obtain ⟨hnamed, _, _, _⟩ := hs
  have hphase' : (s.grantClaim q i t).loader.phase = .running := hphase
  refine ⟨fun x c hx => ?_, fun h => ?_, fun h => absurd hphase' h, fun h => ?_⟩
  · show (s.requester c.requester).standing ≠ .disabled
    rw [grantClaim_claims] at hx
    by_cases hxt : x = t
    · rw [hxt, set_get_self] at hx
      cases hx
      simp [hadmitted.1]
    · rw [set_get_ne _ _ hxt] at hx
      exact hnamed x c hx
  · simp [h] at hphase'
  · simp [h] at hphase'

theorem acceptClearing_standing (s : State) (r q : ReqId) (x : Clearing) :
    ((s.acceptClearing r x).requester q).standing = (s.requester q).standing := by
  unfold State.requester
  rw [acceptClearing_requesters]
  by_cases hq : q = r
  · rw [hq, set_get_self]
    rfl
  · rw [set_get_ne _ _ hq]

theorem disabledLaw_fullReset (s : State) (r : CommitResult) (x : Transaction) : DisabledLaw (s.fullReset r x) := by
  refine ⟨fun t c ht => ?_, fun _ t => fullReset_claim r x s t, fun _ => rfl, fun h => ?_⟩
  · rw [fullReset_claim] at ht
    contradiction
  · exact Phase.noConfusion h

theorem abandonedBatch_idle {b : BatchUnit} (h : openBatch b.staging = false) : (abandonedBatch b).staging = .idle := by
  unfold abandonedBatch
  cases hb : b.staging with
  | idle => exact hb
  | loading g n ops => simp [hb, openBatch] at h
  | loaded g n ops => simp [hb, openBatch] at h
  | committing g n ops copies k t => rfl

theorem disabledLaw_acceptTableReset {s : State} (hs : DisabledLaw s) (h : NoOpenBatch s) :
    DisabledLaw s.acceptTableReset := by
  obtain ⟨hnamed, _, _, _⟩ := hs
  have hphase : s.acceptTableReset.loader.phase = .reloading := by rw [acceptTableReset_loader]; rfl
  refine ⟨fun x c hx => ?_, fun hloading => ?_, fun _ => ?_, fun _ => ?_⟩
  · rw [acceptTableReset_requester]
    exact hnamed x c (claimsShrink_acceptTableReset s x c hx)
  · simp [hphase] at hloading
  · rw [acceptTableReset_batch, abandonedBatch_idle h]
  · rw [acceptTableReset_loader]
    exact ⟨_, _, _, rfl⟩

theorem disabledLaw_turn {s t : State} (h : Turn (· = .running) s t) (hs : DisabledLaw s) : DisabledLaw t := by
  cases h with
  | quiet h => exact disabledLaw_of_quiet h hs
  | granted i _ hadmitted hphase => exact disabledLaw_grantClaim hs i _ hadmitted hphase
  | stored k d _ hadmitted hphase _ => exact disabledLaw_grantClaim hs _ _ hadmitted hphase
  | freed _ =>
    exact disabledLaw_of_shrink hs (claimsShrink_freeClaim s _)
      (fun r => congrArg (fun v => (v.live[r]).standing) (State.freeClaim_requesters _ s))
      (State.freeClaim_loader _ s) (State.freeClaim_batch _ s)
  | dropped k =>
    have hframe := State.dropSlot_shape k s
    exact disabledLaw_of_shrink hs (claimsShrink_dropSlot s k)
      (by obtain ⟨_, _, _, _, _, _, h⟩ := hframe; rw [h]; exact fun _ => rfl)
      (by obtain ⟨_, _, _, _, _, _, h⟩ := hframe; rw [h])
      (by obtain ⟨_, _, _, _, _, _, h⟩ := hframe; rw [h])
  | clearing r x =>
    exact disabledLaw_of_shrink hs (claimsShrink_acceptClearing s r x) (fun q => acceptClearing_standing s r q x)
      (State.acceptClearing_loader r x s) (State.acceptClearing_batch r x s)
  | drained i => exact disabledLaw_of_shrink hs (claimsShrink_endDrain s i) (fun _ => rfl) rfl rfl
  | fullReset r x => exact disabledLaw_fullReset s r x
  | tableReset h => exact disabledLaw_acceptTableReset hs h

/-! ### Carried tags (04 R70, 02 R37) -/

/-- A slot that carries a tag is READY, with an answer that has it. -/
theorem slotTag_ready {x : Slot} {t : Tag} (h : slotTag x = some t) :
    ∃ q i a d, x = .ready q i a d ∧ a.tag = some t := by
  cases x with
  | empty => contradiction
  | waiting q i => contradiction
  | ready q i a d => exact ⟨q, i, a, d, rfl, h⟩

/-- No two slots carry one tag (04 R70). -/
theorem carrier_unique {s : State} (hs : CarriedLaw s) {j k : SlotIx} {t : Tag} (hj : slotTag s.queue[j] = some t)
    (hk : slotTag s.queue[k] = some t) : j = k := by
  obtain ⟨_, hunique, _⟩ := hs
  exact hunique j k t hj hk

/-- A carried tag's record is ACTIVE (04 R70). -/
theorem carried_active {s : State} (hs : CarriedLaw s) {k : SlotIx} {t : Tag} (h : slotTag s.queue[k] = some t) :
    ∃ c, s.claims[t] = .active c := by
  obtain ⟨hactive, _, _⟩ := hs
  obtain ⟨q, i, a, d, hk, ht⟩ := slotTag_ready h
  obtain ⟨c, hc, _, _⟩ := hactive k q i a d t hk ht
  exact ⟨c, hc⟩

/-- Slots stand or become such that they carry no tag and hold nothing new of a requester under clearing; a record a slot
still carries stands. -/
theorem carriedLaw_of_slots {s t : State} (hs : CarriedLaw s) (hslots : ∀ k, SlotQuiet s t k)
    (hclaims : ∀ (k : SlotIx) x, slotTag t.queue[k] = some x → t.claims[x] = s.claims[x])
    (hclearing : ∀ (k : SlotIx) q, slotRequest t.queue[k] = some q → (s.requester q.requester).clearing = none →
      (t.requester q.requester).clearing = none) : CarriedLaw t := by
  obtain ⟨hactive, hunique, hnone⟩ := hs
  have hold {k : SlotIx} {x : Tag} (hx : slotTag t.queue[k] = some x) : t.queue[k] = s.queue[k] := by
    rcases hslots k with hsame | ⟨htag, _⟩
    · exact hsame
    · rw [htag] at hx
      contradiction
  refine ⟨fun k q i a d x hk hx => ?_, fun j k x hj hk => ?_, fun k q hq => ?_⟩
  · have htag : slotTag t.queue[k] = some x := by rw [hk]; exact hx
    rw [hclaims k x htag]
    exact hactive k q i a d x ((hold htag).symm.trans hk) hx
  · exact hunique j k x (hold hj ▸ hj) (hold hk ▸ hk)
  · rcases hslots k with hsame | ⟨_, hrequest⟩
    · exact hclearing k q hq (hnone k q (hsame ▸ hq))
    · exact (hrequest q hq).elim (fun hwas => hclearing k q hq (hnone k q hwas)) id

theorem carriedLaw_of_quiet {s t : State} (h : Quiet s t) (hs : CarriedLaw s) : CarriedLaw t :=
  carriedLaw_of_slots hs h.slots (fun _ _ _ => by rw [h.claims]) fun _ q _ => h.clearing q.requester

/-- A slot that is emptied, or as it was. -/
theorem slotQuiet_of_emptied {s t : State} {k : SlotIx} (h : t.queue[k] = s.queue[k] ∨ t.queue[k] = .empty) :
    SlotQuiet s t k := by
  refine h.imp_right fun hempty => ?_
  rw [hempty]
  exact ⟨rfl, fun q hq => by contradiction⟩

theorem carriedLaw_freeClaim {s : State} (hs : CarriedLaw s) {t : Tag} (h : ∀ k : SlotIx, slotTag s.queue[k] ≠ some t) :
    CarriedLaw (s.freeClaim t) := by
  have hqueue := State.freeClaim_queue t s
  refine carriedLaw_of_slots hs (fun k => .inl (by rw [hqueue])) (fun k x hx => ?_) fun k q _ hq => ?_
  · rw [hqueue] at hx
    have hne : x ≠ t := fun hxt => h k (hxt ▸ hx)
    rw [freeClaim_claims, set_get_ne _ _ hne]
  · unfold State.requester at hq ⊢
    rw [State.freeClaim_requesters]
    exact hq

theorem carriedLaw_dropSlot {s : State} (hs : CarriedLaw s) (k : SlotIx) : CarriedLaw (s.dropSlot k) := by
  have hqueue := dropSlot_queue k s
  have hself : (s.dropSlot k).queue[k] = .empty := by rw [hqueue, set_get_self]
  have hother {j : SlotIx} (hj : j ≠ k) : (s.dropSlot k).queue[j] = s.queue[j] := by rw [hqueue, set_get_ne _ _ hj]
  obtain ⟨_, _, _, _, _, _, hshape⟩ := State.dropSlot_shape k s
  refine carriedLaw_of_slots hs (fun j => slotQuiet_of_emptied ?_) (fun j x hx => ?_) fun j q _ hq => ?_
  · by_cases hj : j = k
    · exact .inr (hj ▸ hself)
    · exact .inl (hother hj)
  · have hj : j ≠ k := by
      rintro rfl
      rw [hself] at hx
      contradiction
    rw [hother hj] at hx
    rw [dropSlot_claim, if_neg fun hk => hj (carrier_unique hs hx hk)]
  · rw [hshape]
    exact hq

theorem carriedLaw_acceptClearing {s : State} (hs : CarriedLaw s) (r : ReqId) (x : Clearing) :
    CarriedLaw (s.acceptClearing r x) := by
  have hslot := acceptClearing_slot r x s
  refine carriedLaw_of_slots hs (fun k => slotQuiet_of_emptied ?_) (fun k y hy => ?_) fun k q hq hclearing => ?_
  · rw [hslot]
    split
    · exact .inr rfl
    · exact .inl rfl
  · rw [acceptClearing_claim]
    refine if_neg ?_
    rintro ⟨j, howns, hj⟩
    rw [hslot] at hy
    split at hy
    · contradiction
    · rename_i hk
      exact hk (carrier_unique hs hj hy ▸ howns)
  · have hne : q.requester ≠ r := by
      rw [hslot] at hq
      split at hq
      · contradiction
      · rename_i hk
        exact fun hr => hk ((owns_iff r s k).2 ⟨q, hq, hr⟩)
    unfold State.requester at hclearing ⊢
    rw [acceptClearing_requesters, set_get_ne _ _ hne]
    exact hclearing

theorem carriedLaw_endDrain {s : State} (hs : CarriedLaw s) (i : EntryIx) : CarriedLaw (s.endDrain i) := by
  have hslot := endDrain_slot i s
  refine carriedLaw_of_slots hs (fun k => slotQuiet_of_emptied ?_) (fun k x hx => ?_) fun _ _ _ hq => hq
  · rw [hslot]
    split
    · exact .inr rfl
    · exact .inl rfl
  · rw [hslot] at hx
    split at hx
    · contradiction
    · rename_i hk
      rw [endDrain_claim, if_neg fun hi => hk ⟨x, hx, hi⟩]

theorem carriedLaw_of_empty {s : State} (h : ∀ k : SlotIx, s.queue[k] = .empty) : CarriedLaw s := by
  refine ⟨fun k q i a d t hk => ?_, fun j k t hj => ?_, fun k q hq => ?_⟩
  · rw [h] at hk
    contradiction
  · rw [h] at hj
    contradiction
  · rw [h] at hq
    contradiction

theorem uncarried_of_free {s : State} (hs : CarriedLaw s) {t : Tag} (hfree : s.claims[t] = .free) (k : SlotIx) :
    slotTag s.queue[k] ≠ some t := by
  intro hk
  obtain ⟨c, hc⟩ := carried_active hs hk
  rw [hfree] at hc
  contradiction

/-- A granted claim is one that no slot carried. -/
theorem carriedLaw_grantClaim {s : State} (hs : CarriedLaw s) {q : Request} {t : Tag} (i : EntryIx)
    (hfree : s.claims[t] = .free) : CarriedLaw (s.grantClaim q i t) := by
  refine carriedLaw_of_slots (t := s.grantClaim q i t) hs (fun _ => .inl rfl) (fun k x hx => ?_) fun _ _ _ hq => hq
  have hne : x ≠ t := fun hxt => uncarried_of_free hs hfree k (hxt ▸ hx)
  rw [grantClaim_claims, set_get_ne _ _ hne]

/-- A slot comes to carry a tag that no slot carries, of an ACTIVE claim of its requester on its page. -/
theorem carriedLaw_putSlot_ready {s : State} (hs : CarriedLaw s) {q : Request} {i : EntryIx} {a : Response} {t : Tag}
    {c : Claim} (k : SlotIx) (d : Time) (htag : a.tag = some t) (huncarried : ∀ j : SlotIx, slotTag s.queue[j] ≠ some t)
    (hc : s.claims[t] = .active c) (hrequester : c.requester = q.requester) (hentry : c.entry = i)
    (hclearing : (s.requester q.requester).clearing = none) : CarriedLaw (s.putSlot k (.ready q i a d)) := by
  obtain ⟨hactive, hunique, hnone⟩ := hs
  have hself : (s.putSlot k (.ready q i a d)).queue[k] = .ready q i a d := set_get_self _ _ _
  have hother {j : SlotIx} (hj : j ≠ k) : (s.putSlot k (.ready q i a d)).queue[j] = s.queue[j] := set_get_ne _ _ hj
  have hcarries {j : SlotIx} {x : Tag} (hj : slotTag (s.putSlot k (.ready q i a d)).queue[j] = some x) :
      j = k ↔ x = t := by
    by_cases hjk : j = k
    · rw [hjk, hself] at hj
      exact iff_of_true hjk (Option.some.inj (hj.symm.trans htag))
    · rw [hother hjk] at hj
      exact iff_of_false hjk fun hxt => huncarried j (hxt ▸ hj)
  refine ⟨fun j p m b e x hj hx => ?_, fun j l x hj hl => ?_, fun j p hp => ?_⟩
  · by_cases hjk : j = k
    · rw [hjk, hself] at hj
      cases hj
      cases htag.symm.trans hx
      exact ⟨c, hc, hrequester, hentry⟩
    · rw [hother hjk] at hj
      exact hactive j p m b e x hj hx
  · by_cases hxt : x = t
    · exact ((hcarries hj).2 hxt).trans ((hcarries hl).2 hxt).symm
    · have hjk : j ≠ k := fun h => hxt ((hcarries hj).1 h)
      have hlk : l ≠ k := fun h => hxt ((hcarries hl).1 h)
      rw [hother hjk] at hj
      rw [hother hlk] at hl
      exact hunique j l x hj hl
  · by_cases hjk : j = k
    · rw [hjk, hself] at hp
      cases hp
      exact hclearing
    · rw [hother hjk] at hp
      exact hnone j p hp

/-- The slot that stores the answer of a granted claim carries its tag. -/
theorem carriedLaw_storeGrant {s : State} (hs : CarriedLaw s) {q : Request} {i : EntryIx} {t : Tag} {a : Response}
    (k : SlotIx) (d : Time) (hfree : s.claims[t] = .free) (hadmitted : Admitted q.requester s) (htag : a.tag = some t) :
    CarriedLaw ((s.grantClaim q i t).putSlot k (.ready q i a d)) :=
  carriedLaw_putSlot_ready (carriedLaw_grantClaim hs i hfree) k d htag (uncarried_of_free hs hfree)
    (by rw [grantClaim_claims, set_get_self]) rfl rfl hadmitted.2

theorem carriedLaw_turn {ok : Phase → Prop} {s t : State} (h : Turn ok s t) (hs : CarriedLaw s) : CarriedLaw t := by
  cases h with
  | quiet h => exact carriedLaw_of_quiet h hs
  | granted i hfree _ _ => exact carriedLaw_grantClaim hs i hfree
  | stored k d hfree hadmitted _ htag => exact carriedLaw_storeGrant hs k d hfree hadmitted htag
  | freed h => exact carriedLaw_freeClaim hs (h hs)
  | dropped k => exact carriedLaw_dropSlot hs k
  | clearing r x => exact carriedLaw_acceptClearing hs r x
  | drained i => exact carriedLaw_endDrain hs i
  | fullReset r x => exact carriedLaw_of_empty (fullReset_slot r x s)
  | tableReset _ => exact carriedLaw_of_empty (acceptTableReset_slot s)

end Sys2Proof.Machine
end

section
/-! SUPPORT. The shared operations as chains of turns: reads, writes, faults, walks, the evaluation of requests. -/

namespace Sys2Proof.Machine

/-- An operation on none of the fields that turns are about is quiet. -/
theorem quiet_elsewhere {s t : State} (hentries : t.store.entries = s.store.entries) (hclaims : t.claims = s.claims)
    (hqueue : t.queue = s.queue) (hlive : t.requesters.live = s.requesters.live) (hloader : t.loader = s.loader)
    (hstaging : s.batch.staging = .idle → t.batch.staging = .idle ∨ t.loader.phase = .running) : Quiet s t :=
  quiet_of_frame hclaims hqueue hlive hloader (keepsCounts_of_entries hentries) hstaging

/-! ### Quiet operations on entries (01 R16, R17) -/

theorem quiet_readEntry (f : Finder) (i : EntryIx) (s : State) : Quiet s (s.readEntry f i) := by
  obtain ⟨_, _, _, h⟩ := State.readEntry_shape f i s
  exact quiet_of_frame (by rw [h]) (by rw [h]) (by rw [h]) (by rw [h])
    (fun hs => ⟨canonical_readEntry hs f i, claimCount_readEntry s f i⟩) (by rw [h]; exact .inl)

/-! ### Quiet operations on slots (05) -/

/-- One slot changes, to one that is no worse for the law of carried tags. -/
theorem quiet_putSlot {s : State} {k : SlotIx} {x : Slot} (hx : SlotQuiet s (s.putSlot k x) k) :
    Quiet s (s.putSlot k x) where
  claims := rfl
  counts := keepsCounts_of_entries rfl
  slots j := by
    by_cases hj : j = k
    · exact hj ▸ hx
    · exact .inl (set_get_ne _ _ hj)
  standing _ := .inl
  clearing _ := id
  phase := .inl ⟨rfl, id⟩
  staging := .inl

theorem quiet_putSlot_empty (k : SlotIx) (s : State) : Quiet s (s.putSlot k .empty) :=
  quiet_putSlot (slotQuiet_of_emptied (.inr (set_get_self _ _ _)))

/-- A slot of the same request that carries no tag. -/
theorem quiet_putSlot_same {s : State} {k : SlotIx} {x : Slot} (htag : slotTag x = none)
    (hrequest : ∀ q, slotRequest x = some q → slotRequest s.queue[k] = some q) : Quiet s (s.putSlot k x) := by
  have hself : (s.putSlot k x).queue[k] = x := set_get_self _ _ _
  refine quiet_putSlot (.inr ?_)
  rw [hself]
  exact ⟨htag, fun q hq => .inl (hrequest q hq)⟩

/-- A request of a requester that is not under clearing waits in a slot. -/
theorem quiet_putSlot_waiting {s : State} (k : SlotIx) {q : Request} (i : EntryIx)
    (hclearing : (s.requester q.requester).clearing = none) : Quiet s (s.putSlot k (.waiting q i)) := by
  have hself : (s.putSlot k (.waiting q i)).queue[k] = .waiting q i := set_get_self _ _ _
  refine quiet_putSlot (.inr ?_)
  rw [hself]
  exact ⟨rfl, fun p hp => by cases hp; exact .inr hclearing⟩

theorem emptyStale_slot (i : EntryIx) (q : PendingQueue) (k : SlotIx) :
    (emptyStale i q)[k] = q[k] ∨ (emptyStale i q)[k] = .empty := by
  have h : (emptyStale i q)[k] =
      if isReady q[k] && slotPage q[k] == some i && slotTag q[k] == none then .empty else q[k] := by
    simp [emptyStale]
  rw [h]
  split
  · exact .inr rfl
  · exact .inl rfl

theorem quiet_sweepWrite (i : EntryIx) (c : Contents) (s : State) : Quiet s (s.sweepWrite i c) where
  claims := rfl
  counts := keepsCounts_putEntry (e := rewriteEntry (s.entry i) (s.entry i).contents c false) fun _ => rfl
  slots k := slotQuiet_of_emptied (emptyStale_slot i s.queue k)
  standing _ := .inl
  clearing _ := id
  phase := .inl ⟨rfl, id⟩
  staging := .inl

/-! ### Quiet operations on the requesters and the walk (02 R29, 09) -/

theorem fault_standing (r q : ReqId) (k : FaultKind) (s : State) (h : ((s.fault r k).requester q).standing = .disabled) :
    (s.requester q).standing = .disabled := by
  by_cases hq : q = r
  · subst hq
    by_cases hcounted : faultCounted s.settings (s.requester q) k = true
    · by_cases hthreshold : reachesThreshold s.settings (countedFaults (s.requester q).faults) = true
      · rw [fault_quarantines hcounted hthreshold] at h
        simp [State.requester, State.report, State.putRequester] at h
      · rw [fault_counted hcounted hthreshold] at h
        simpa [State.requester, State.report, State.putRequester] using h
    · rwa [fault_uncounted hcounted] at h
  · rwa [fault_other r q k s hq] at h

theorem fault_clearing (r q : ReqId) (k : FaultKind) (s : State) :
    ((s.fault r k).requester q).clearing = (s.requester q).clearing := by
  by_cases hq : q = r
  · obtain ⟨_, _, hclearing⟩ := fault_self_fields r k s
    rw [hq, hclearing]
  · rw [fault_other r q k s hq]

theorem quiet_fault (r : ReqId) (k : FaultKind) (s : State) : Quiet s (s.fault r k) where
  claims := State.fault_claims r k s
  counts := keepsCounts_of_entries (by rw [State.fault_store])
  slots j := .inl (by rw [State.fault_queue])
  standing q hq := .inl (fault_standing r q k s hq)
  clearing q hq := (fault_clearing r q k s).trans hq
  phase := .inl (phase_of_loader (State.fault_loader r k s))
  staging h := .inl (by rw [State.fault_batch]; exact h)

/-- A response is delivered with the fault it incurs (03 R42, R59). -/
theorem turns_deliver {ok : Phase → Prop} (r : ReqId) (a : Response) (s : State) : Turns ok s (s.deliver r a) := by
  have hport : Turns ok s { s with port := .answered a } :=
    turns_of_quiet (quiet_elsewhere rfl rfl rfl rfl rfl .inl)
  unfold State.deliver
  dsimp only
  split
  · exact hport.thenQuiet (quiet_fault r _ _)
  · exact hport

theorem quiet_endWalk (w : Walk) (x : WalkEnd) (s : State) : Quiet s (s.endWalk w x) :=
  quiet_of_frame (State.endWalk_claims w x s) (State.endWalk_queue w x s) (endWalk_live w x s) (State.endWalk_loader w x s)
    (keepsCounts_of_entries (by rw [State.endWalk_store])) (by rw [State.endWalk_batch]; exact .inl)

theorem turns_advance {ok : Phase → Prop} (w : Walk) (n : Nat) (s : State) : Turns ok s (s.advance w n) := by
  have hcursor : Turns ok s (s.updateReport (fun r => { r with cursor := n })) :=
    turns_of_quiet (quiet_elsewhere rfl rfl rfl rfl rfl .inl)
  have hwalk (u : State) (x : Option Walk) : Quiet u { u with sweep := { u.sweep with walk := x } } :=
    quiet_elsewhere rfl rfl rfl rfl rfl .inl
  unfold State.advance
  dsimp only
  split
  · exact hcursor.thenQuiet (quiet_endWalk w .complete _)
  · split
    · exact hcursor.thenQuiet (quiet_endWalk w .cancelled _)
    · exact hcursor.thenQuiet (hwalk _ _)
    · exact hcursor.thenQuiet (hwalk _ _)

theorem quiet_lackItem (w : Walk) (s : State) : Quiet s (s.lackItem w) := by
  unfold State.lackItem
  split
  · exact quiet_endWalk w .cancelled s
  · exact quiet_elsewhere rfl rfl rfl rfl rfl .inl
  · exact quiet_elsewhere rfl rfl rfl rfl rfl .inl

theorem quiet_updateReport (f : SweepReport → SweepReport) (s : State) : Quiet s (s.updateReport f) :=
  quiet_elsewhere rfl rfl rfl rfl rfl .inl

theorem quiet_addDrain (i : EntryIx) (s : State) : Quiet s (s.addDrain i) :=
  quiet_elsewhere rfl rfl rfl rfl rfl .inl

theorem quiet_report (e : ErrorRecord) (s : State) : Quiet s (s.report e) :=
  quiet_elsewhere rfl rfl rfl rfl rfl .inl

theorem quiet_raise (k : EventKind) (s : State) : Quiet s (s.raise k) :=
  quiet_elsewhere rfl rfl rfl rfl rfl .inl

/-! ### The Sweep Engine's steps and the end of an event (09 R152 to R156) -/

section Walks

variable {ok : Phase → Prop}

theorem turns_sweepTake (w : Walk) (d : Domain) (s : State) : Turns ok s (s.sweepTake w d) := by
  have hread : Turns ok s (s.readEntry .sweep w.cursor) := turns_of_quiet (quiet_readEntry _ _ _)
  have hwrite (c : Contents) : Turns ok s ((s.readEntry .sweep w.cursor).sweepWrite w.cursor c) :=
    hread.thenQuiet (quiet_sweepWrite _ _ _)
  unfold State.sweepTake
  dsimp only
  split
  case h_1 => exact (hread.thenQuiet (quiet_updateReport _ _)).trans (turns_advance _ _ _)
  case h_2 => exact hread.trans (turns_advance _ _ _)
  case h_3 =>
    split
    · exact ((hwrite _).thenQuiet (quiet_updateReport _ _)).trans (turns_advance _ _ _)
    · exact hread.trans (turns_advance _ _ _)
  case h_4 =>
    split
    · split
      · exact ((hwrite _).thenQuiet (quiet_updateReport _ _)).trans (turns_advance _ _ _)
      · split
        · exact ((hwrite _).thenQuiet (quiet_updateReport _ _)).trans (turns_advance _ _ _)
        · split
          · exact (((hwrite _).thenQuiet (quiet_addDrain _ _)).thenQuiet (quiet_updateReport _ _)).trans
              (turns_advance _ _ _)
          · exact hread.thenQuiet (quiet_lackItem _ _)
    · exact hread.trans (turns_advance _ _ _)

theorem turns_sweepStepOf (w : Walk) (d : Domain) (s : State) : Turns ok s (s.sweepStepOf w d) := by
  unfold State.sweepStepOf
  split
  · exact (turns_of_quiet (quiet_updateReport _ s)).trans (turns_advance _ _ _)
  · exact turns_sweepTake w d s

theorem turns_scrubStepOf (w : Walk) (s : State) : Turns ok s (s.scrubStepOf w) := by
  have hread : Turns ok s (s.readEntry .scrub w.cursor) := turns_of_quiet (quiet_readEntry _ _ _)
  unfold State.scrubStepOf
  dsimp only
  split
  · exact (hread.thenQuiet (quiet_updateReport _ _)).trans (turns_advance _ _ _)
  · exact hread.trans (turns_advance _ _ _)

theorem turns_retake (s : State) : Turns ok s s.retake := by
  unfold State.retake
  split
  · split
    · exact turns_sweepTake _ _ s
    · exact .refl
  · exact .refl

/-- The end of an event adds at most a retake. -/
theorem Turns.settled {s t : State} (h : Turns ok s t) (u : State) : Turns ok s (settle u t) := by
  rcases settle_cases u t with hsame | hretake
  · rwa [hsame]
  · rw [hretake]
    exact h.trans (turns_retake t)

end Walks

/-! ### The evaluation of a request (03 R54 to R58, R60) -/

/-- Steps 9 and 10 grant the claim of a FREE tag, or change nothing and give no tag. -/
theorem claimAndGrant_cases (q : Request) (i : EntryIx) (p : Placement) (s : State) :
    ((s.claimAndGrant q i p).1 = s ∧ (s.claimAndGrant q i p).2.tag = none)
    ∨ ∃ t, s.claims[t] = .free ∧ (s.claimAndGrant q i p).1 = s.grantClaim q i t
      ∧ (s.claimAndGrant q i p).2.tag = some t ∧ (s.claimAndGrant q i p).2.verdict = .granted := by
  unfold State.claimAndGrant
  dsimp only
  split
  · exact .inl ⟨rfl, rfl⟩
  · split
    · exact .inl ⟨rfl, rfl⟩
    · rename_i t ht
      exact .inr ⟨t, beq_iff_eq.1 (find_finRange_some.1 ht).1, rfl, rfl, rfl⟩

/-- Steps 6 to 10 read the entry, and grant a claim or give no tag. -/
theorem entryTests_cases (q : Request) (i : EntryIx) (s : State) :
    ((s.entryTests q i).1 = s.readEntry .resolve i ∧ (s.entryTests q i).2.tag = none)
    ∨ ∃ t, (s.readEntry .resolve i).claims[t] = .free
      ∧ (s.entryTests q i).1 = (s.readEntry .resolve i).grantClaim q i t
      ∧ (s.entryTests q i).2.tag = some t ∧ (s.entryTests q i).2.verdict = .granted := by
  unfold State.entryTests
  dsimp only
  split
  case h_1 => exact .inl ⟨rfl, rfl⟩
  case h_2 => exact .inl ⟨rfl, rfl⟩
  case h_3 =>
    split
    · exact .inl ⟨rfl, rfl⟩
    · exact .inl ⟨rfl, rfl⟩
  case h_4 =>
    split
    · exact .inl ⟨rfl, rfl⟩
    · split
      · exact .inl ⟨rfl, rfl⟩
      · split
        · exact claimAndGrant_cases q i _ _
        · exact .inl ⟨rfl, rfl⟩

/-- A requester that step 2 does not refuse is ENABLED with no clearing in progress (03 R49). -/
theorem admitted_of_no_denial {s : State} {r : ReqId} (h : s.standingDenial r = none) : Admitted r s := by
  unfold State.standingDenial at h
  dsimp only at h
  split at h
  · contradiction
  · rename_i hclearing
    refine ⟨?_, Option.not_isSome_iff_eq_none.1 hclearing⟩
    split at h
    · contradiction
    · contradiction
    · assumption

theorem admitted_readEntry {s : State} {r : ReqId} (h : Admitted r s) (f : Finder) (i : EntryIx) :
    Admitted r (s.readEntry f i) := by
  unfold Admitted State.requester
  rw [State.readEntry_requesters]
  exact h

section Requests

variable {ok : Phase → Prop} {s : State}

theorem turns_entryTests {q : Request} (hadmitted : Admitted q.requester s) (hphase : ok s.loader.phase) (i : EntryIx) :
    Turns ok s (s.entryTests q i).1 := by
  have hread : Turns ok s (s.readEntry .resolve i) := turns_of_quiet (quiet_readEntry _ _ _)
  rcases entryTests_cases q i s with ⟨hstate, _⟩ | ⟨t, hfree, hstate, _, _⟩
  · rwa [hstate]
  · rw [hstate]
    exact hread.tail (.granted i hfree (admitted_readEntry hadmitted _ _) (by rwa [State.readEntry_loader]))

/-- A slot takes an answer without a tag. -/
theorem quiet_slotAfter {u : State} {k : SlotIx} {q : Request} {i : EntryIx} {a : Response}
    (hk : u.queue[k] = .waiting q i) (htag : a.tag = none) (d : Time) :
    Quiet u (u.putSlot k (slotAfter q i a d)) := by
  unfold slotAfter
  split
  · exact quiet_putSlot_empty k u
  · exact quiet_putSlot_same htag fun p hp => by rw [hk]; exact hp

theorem turns_evaluateSlot (hphase : ok s.loader.phase) (k : SlotIx) : Turns ok s (s.evaluateSlot k) := by
  cases hw : isWaiting s.queue[k] with
  | false =>
    rw [evaluateSlot_of_not_waiting hw]
  | true =>
    obtain ⟨q, i, hk⟩ := eq_waiting_of_isWaiting hw
    generalize hd : s.now + discardNs s.settings.discardTime = d
    have hput : s.evaluateSlot k = (s.evaluate q i).1.putSlot k (slotAfter q i (s.evaluate q i).2 d) := by
      rw [evaluateSlot_of_waiting hk, hd]
      unfold State.putSlot
      rw [State.evaluate_queue]
    rw [hput]
    cases hdenial : s.standingDenial q.requester with
    | some v =>
      rw [evaluate_of_denial hdenial]
      exact turns_of_quiet (quiet_slotAfter hk rfl d)
    | none =>
      have hadmitted := admitted_of_no_denial hdenial
      rw [evaluate_of_admitted hadmitted]
      have hread : Turns ok s (s.readEntry .resolve i) := turns_of_quiet (quiet_readEntry _ _ _)
      rcases entryTests_cases q i s with ⟨hstate, htag⟩ | ⟨t, hfree, hstate, htag, hverdict⟩
      · rw [hstate]
        exact hread.thenQuiet (quiet_slotAfter (by rw [State.readEntry_queue]; exact hk) htag d)
      · have hready : slotAfter q i (s.entryTests q i).2 d = .ready q i (s.entryTests q i).2 d :=
          if_neg (by simp [hverdict])
        rw [hstate, hready]
        exact hread.tail (.stored k d hfree (admitted_readEntry hadmitted _ _) (by rwa [State.readEntry_loader]) htag)

theorem turns_evaluateWaiting (hphase : ok s.loader.phase) : Turns ok s s.evaluateWaiting := by
  unfold State.evaluateWaiting
  refine And.left (State.foldl_keeps (p := fun u => Turns ok s u ∧ u.loader = s.loader) (fun u k hu => ?_) _ ⟨.refl, rfl⟩)
  obtain ⟨hturns, hloader⟩ := hu
  refine ⟨hturns.trans (turns_evaluateSlot (by rwa [hloader]) k), ?_⟩
  obtain ⟨_, _, _, _, _, _, h⟩ := State.evaluateSlot_shape k u
  rw [h]
  exact hloader

theorem turns_storeRequest {q : Request} (hadmitted : Admitted q.requester s) (i : EntryIx) :
    Turns ok s (s.storeRequest q i).1 := by
  unfold State.storeRequest
  split
  · exact .refl
  · split
    · exact turns_of_quiet (quiet_putSlot_waiting _ i hadmitted.2)
    · exact .refl

theorem turns_resolveInside {q : Request} (hadmitted : Admitted q.requester s) (hphase : ok s.loader.phase) :
    Turns ok s (s.resolveInside q).1 := by
  unfold State.resolveInside
  split
  · split
    · exact turns_of_quiet (quiet_putSlot_empty _ s)
    · exact turns_entryTests hadmitted hphase _
  · split
    · exact turns_storeRequest hadmitted _
    · exact turns_entryTests hadmitted hphase _

theorem phase_of_not_starting (h : ¬ s.starting = true) : s.loader.phase = .running := by
  by_contra hphase
  exact h (starting_eq_true hphase)

theorem turns_resolveRequest (hok : ok .running) (q : Request) : Turns ok s (s.resolveRequest q).1 := by
  unfold State.resolveRequest
  split
  · exact .refl
  · rename_i hstarting
    have hphase : ok s.loader.phase := by rwa [phase_of_not_starting hstarting]
    split
    · exact .refl
    · rename_i hnone
      split
      · exact turns_resolveInside (admitted_of_no_denial hnone) hphase
      · exact .refl

/-- A release frees a record that no slot carries, or empties the slot that carries it (04 R71 to R75). -/
theorem turns_releaseRequest (r : ReqId) (t : Tag) : Turns ok s (s.releaseRequest r t).1 := by
  unfold State.releaseRequest
  split
  · exact .refl
  · rename_i c hc
    split
    · refine .single (.freed fun hs k hk => ?_)
      obtain ⟨x, hx⟩ := carried_active hs hk
      rw [hc] at hx
      contradiction
    · exact .refl
  · split
    · split
      · rename_i k hk
        have htag : slotTag s.queue[k] = some t := beq_iff_eq.1 (find_finRange_some.1 hk).1
        have hdrop := Turn.dropped (ok := ok) (s := s) k
        rw [dropSlot_of_carrying htag] at hdrop
        exact .single hdrop
      · rename_i hnone
        exact .single (.freed fun _ k => beq_eq_false_iff_ne.1 (find_finRange_none.1 hnone k))
    · exact .refl

/-- The records a clearing frees are carried by no slot: its requester has none (02 R37, R38). -/
theorem turns_clearingFree {r : ReqId} (hclearing : (s.requester r).clearing.isSome) {t : Tag}
    (ht : s.lowestOf r = some t) : Turns ok s (s.freeClaim t) := by
  refine .single (.freed fun ⟨hactive, _, hslots⟩ k hk => ?_)
  obtain ⟨q, i, a, d, hready, htag⟩ := slotTag_ready hk
  obtain ⟨c, hc, hrequester, _⟩ := hactive k q i a d t hready htag
  have hnamed : namesRequester r s.claims[t] = true := (find_finRange_some.1 ht).1
  rw [hc] at hnamed
  have hqr : q.requester = r := hrequester.symm.trans (beq_iff_eq.1 hnamed)
  have hnone := hslots k q (by rw [hready]; rfl)
  rw [hqr] at hnone
  simp [hnone] at hclearing

end Requests

end Sys2Proof.Machine
end

section
/-! SUPPORT. The load of the image as chains of turns (12 R183 to R189). -/

namespace Sys2Proof.Machine

/-- What every piece of the load keeps. -/
structure Loads (s t : State) : Prop where
  claims : t.claims = s.claims
  queue : t.queue = s.queue
  batch : t.batch = s.batch
  phase : t.loader.phase = s.loader.phase
  counts : KeepsCounts s t
  clearing : ∀ r, (s.requester r).clearing = none → (t.requester r).clearing = none

theorem Loads.refl (s : State) : Loads s s := ⟨rfl, rfl, rfl, rfl, keepsCounts_of_entries rfl, fun _ => id⟩

theorem Loads.trans {s t u : State} (hst : Loads s t) (htu : Loads t u) : Loads s u where
  claims := htu.claims.trans hst.claims
  queue := htu.queue.trans hst.queue
  batch := htu.batch.trans hst.batch
  phase := htu.phase.trans hst.phase
  counts := hst.counts.trans htu.counts
  clearing r hr := htu.clearing r (hst.clearing r hr)

/-- In LOADING a piece of the load is quiet, whatever it makes of the requesters. -/
theorem quiet_of_loads {s t : State} (h : Loads s t) (hphase : s.loader.phase = .loading) : Quiet s t where
  claims := h.claims
  counts := h.counts
  slots _ := .inl (by rw [h.queue])
  standing _ _ := .inr (.inr (.inl hphase))
  clearing := h.clearing
  phase := .inl ⟨h.phase, fun _ hreloading => by simp [h.phase, hphase] at hreloading⟩
  staging hidle := .inl (by rw [h.batch]; exact hidle)

/-! ### Piece by piece (12 R183 to R186) -/

/-- A piece that leaves entries and live records. -/
theorem loads_elsewhere {s t : State} (hentries : t.store.entries = s.store.entries) (hclaims : t.claims = s.claims)
    (hqueue : t.queue = s.queue) (hlive : t.requesters.live = s.requesters.live) (hbatch : t.batch = s.batch)
    (hphase : t.loader.phase = s.loader.phase) : Loads s t :=
  ⟨hclaims, hqueue, hbatch, hphase, keepsCounts_of_entries hentries, clearing_of_live hlive⟩

theorem loads_reportSkipped (x : ImageItem) (n : Nat) (f : ImageFlags → ImageFlags) (s : State) :
    Loads s (s.reportSkipped x n f) := by
  unfold State.reportSkipped
  split
  · exact .refl s
  · exact loads_elsewhere rfl rfl rfl rfl rfl rfl

theorem loads_putWork (w : LoadWork) (s : State) : Loads s (s.putWork w) := loads_elsewhere rfl rfl rfl rfl rfl rfl

theorem loads_loadCheck (s : State) : Loads s s.loadCheck := by
  unfold State.loadCheck
  split
  · exact loads_elsewhere rfl rfl rfl rfl rfl rfl
  · exact loads_putWork _ s

theorem loads_applyControl (c : ControlValues) (s : State) : Loads s (s.applyControl c) := by
  rw [applyControl_eq]
  exact (loads_elsewhere (s := s) (t := s.setControl c) rfl rfl rfl rfl rfl rfl).trans (loads_reportSkipped _ _ _ _)

theorem loads_loadControl (s : State) : Loads s s.loadControl := by
  unfold State.loadControl
  split
  · exact (loads_applyControl _ s).trans (loads_putWork _ _)
  · exact (loads_applyControl _ s).trans (loads_putWork _ _)
  · exact (loads_applyControl _ s).trans (loads_putWork _ _)

/-- Live records loaded from the Requester Defaults are under no clearing (02 R23). -/
theorem loads_applyRequesters (v : RequesterValues) (s : State) : Loads s (s.applyRequesters v) := by
  have hset : Loads s (s.setRequesters v) := by
    refine ⟨rfl, rfl, rfl, rfl, keepsCounts_of_entries rfl, fun r _ => ?_⟩
    rw [setRequesters_requester]
    rfl
  rw [applyRequesters_eq]
  exact hset.trans (loads_reportSkipped _ _ _ _)

theorem loads_loadRequesters (s : State) : Loads s s.loadRequesters := by
  unfold State.loadRequesters
  split
  · exact (loads_applyRequesters _ s).trans (loads_putWork _ _)
  · exact (loads_applyRequesters _ s).trans (loads_putWork _ _)
  · exact (loads_applyRequesters _ s).trans (loads_putWork _ _)

theorem loads_loadPreloadStart (s : State) : Loads s s.loadPreloadStart := by
  unfold State.loadPreloadStart
  split
  · exact loads_putWork _ s
  · exact loads_putWork _ s
  · exact loads_elsewhere rfl rfl rfl rfl rfl rfl

/-- An install keeps the claim count its entry has stored (12 R186, log 26). -/
theorem loads_takePreload (a b c : ImageWord) (r : PreloadRun) : Loads r.state (takePreload a b c r).state := by
  unfold takePreload
  split
  · split
    · exact .refl _
    · exact ⟨rfl, rfl, rfl, rfl, keepsCounts_putEntry fun _ => rfl, fun _ => id⟩
  · exact .refl _

theorem loads_preloadRecords (l : List ImageWord) (r : PreloadRun) : Loads r.state (preloadRecords l r).state := by
  fun_induction preloadRecords l r with
  | case1 a b c rest r ih => exact (loads_takePreload a b c r).trans ih
  | case2 => exact .refl _
  | case3 => exact .refl _

theorem loads_loadPreloadRest (l : List ImageWord) (m : List Nat) (n : Nat) (s : State) :
    Loads s (s.loadPreloadRest l m n) :=
  ((loads_preloadRecords l ⟨s, m, n⟩).trans (loads_reportSkipped _ _ _ _)).trans (loads_putWork _ _)

theorem loads_loadPreloadPiece (l : List ImageWord) (m : List Nat) (n : Nat) (s : State) :
    Loads s (s.loadPreloadPiece l m n) := by
  unfold State.loadPreloadPiece
  split
  · exact (loads_takePreload _ _ _ ⟨s, m, n⟩).trans (loads_putWork _ _)
  · exact loads_loadPreloadRest l m n s

theorem loads_loadFromPreload (s : State) : Loads s s.loadFromPreload := by
  unfold State.loadFromPreload
  split
  · exact loads_loadPreloadRest _ _ _ s
  · exact .refl s

theorem loads_loadFreeze (s : State) : Loads s s.loadFreeze := by
  obtain ⟨_, _, _, h⟩ := State.loadFreeze_shape s
  have hphase := loadFreeze_phase s
  exact loads_elsewhere (by rw [h]) (by rw [h]) (by rw [h]) (by rw [h]) (by rw [h]) hphase

theorem loads_loadPiece (s : State) : Loads s s.loadPiece := by
  unfold State.loadPiece
  split
  · exact loads_loadCheck s
  · exact loads_loadControl s
  · exact loads_loadRequesters s
  · exact loads_loadPreloadStart s
  · exact loads_loadPreloadPiece _ _ _ s
  · exact loads_loadFreeze s
  · exact .refl s
  · exact .refl s

theorem loads_loadRest (s : State) : Loads s s.loadRest := by
  have stage {c : Prop} [Decidable c] {u v w : State} (hu : Loads u v) (hv : Loads v w) :
      Loads u (if c then w else v) := by
    split
    · exact hu.trans hv
    · exact hu
  have hcheck : Loads s s.loadFromCheck := stage (.refl s) (loads_loadCheck s)
  have hcontrol : Loads s s.loadFromCheck.loadFromControl := stage hcheck (loads_loadControl _)
  have hrequesters : Loads s s.loadFromCheck.loadFromControl.loadFromRequesters :=
    stage hcontrol (loads_loadRequesters _)
  have hstart : Loads s s.loadFromCheck.loadFromControl.loadFromRequesters.loadFromPreloadStart :=
    stage hrequesters (loads_loadPreloadStart _)
  exact stage (hstart.trans (loads_loadFromPreload _)) (loads_loadFreeze _)

/-! ### A piece taken in RELOADING (12 R189) -/

/-- In RELOADING a piece of the Preload section is another, unless it ends the section. -/
theorem loadPreloadPiece_work {l : List ImageWord} {m : List Nat} {n : Nat} {s : State}
    (hphase : s.loader.phase = .reloading) :
    (s.loadPreloadPiece l m n).loader.work = .finish
      ∨ ∃ w x k, (s.loadPreloadPiece l m n).loader.work = .preload w x k := by
  unfold State.loadPreloadPiece
  split
  · exact .inr ⟨_, _, _, rfl⟩
  · exact .inl ((loadPreloadRest_work l m n s).trans (if_pos hphase))

/-- A piece that does not end the load is quiet: in RELOADING it is one of the Preload section. -/
theorem quiet_loadPiece {s : State} (hphase : s.loader.phase ≠ .running) (hwork : s.loadPiece.loader.work ≠ .finish) :
    Quiet s s.loadPiece := by
  have h := loads_loadPiece s
  by_cases hloading : s.loader.phase = .loading
  · exact quiet_of_loads h hloading
  have hreloading : s.loader.phase = .reloading := by
    cases hp : s.loader.phase with
    | loading => exact absurd hp hloading
    | reloading => rfl
    | running => exact absurd hp hphase
  have hpiece {l : List ImageWord} {m : List Nat} {n : Nat} (hl : s.loader.work = .preload l m n) :
      s.loadPiece = s.loadPreloadPiece l m n := by
    unfold State.loadPiece
    rw [hl]
  refine ⟨h.claims, h.counts, fun k => .inl (by rw [h.queue]), fun r hr => ?standing, h.clearing,
    .inl ⟨h.phase, fun hpreload _ => ?preload⟩, fun hidle => .inl (by rw [h.batch]; exact hidle)⟩
  case standing =>
    by_cases hpreload : ReloadsPreload s
    · obtain ⟨l, m, n, hl⟩ := hpreload hreloading
      obtain ⟨_, _, _, hshape⟩ := State.loadPreloadPiece_shape l m n s
      rw [hpiece hl, hshape] at hr
      exact .inl hr
    · exact .inr (.inr (.inr hpreload))
  case preload =>
    obtain ⟨l, m, n, hl⟩ := hpreload hreloading
    rw [hpiece hl] at hwork ⊢
    exact (loadPreloadPiece_work hreloading).resolve_left hwork

/-! ### The load's progress and its end (12 R187, R189) -/

section Progress

variable {ok : Phase → Prop}

theorem turns_tick (s : State) : Turns ok s s.tick := by
  have hload : Turns ok s s.loadTick := by
    unfold State.loadTick
    dsimp only
    split
    · rename_i hworks
      have hphase : s.loader.phase ≠ .running := by
        rintro hrunning
        simp [State.loaderWorks, hrunning] at hworks
      have hfree : Turns ok s { s with free := s.free + 1 } :=
        turns_of_quiet (quiet_elsewhere rfl rfl rfl rfl rfl .inl)
      split
      · rename_i hadvances
        exact hfree.thenQuiet (quiet_loadPiece hphase hadvances.2)
      · exact hfree
    · exact .refl
  exact hload.thenQuiet (quiet_elsewhere rfl rfl rfl rfl rfl .inl)

/-- RUNNING is entered after a piece of the load that leaves the live records. -/
theorem quiet_enterRunning {s t : State} (h : Loads s t) (hlive : t.requesters.live = s.requesters.live) :
    Quiet s t.enterRunning where
  claims := h.claims
  counts := h.counts.trans (keepsCounts_of_entries rfl)
  slots _ := .inl (by rw [State.enterRunning_queue, h.queue])
  standing := standingQuiet_of_live hlive
  clearing := h.clearing
  phase := .inr rfl
  staging _ := .inr rfl

theorem turns_imageLoadDone {s : State} (hphase : s.loader.phase = .loading) : Turns ok s s.loadRest.enterRunning :=
  (turns_of_quiet (quiet_of_loads (loads_loadRest s) hphase)).thenQuiet (quiet_enterRunning (.refl _) rfl)

theorem turns_preloadReloadDone (s : State) : Turns ok s s.loadFromPreload.enterRunning := by
  obtain ⟨_, _, _, h⟩ := State.loadFromPreload_shape s
  exact turns_of_quiet (quiet_enterRunning (loads_loadFromPreload s) (by rw [h]))

end Progress

end Sys2Proof.Machine
end

section
/-! SUPPORT. The host commands as chains of turns (11 R181). -/

namespace Sys2Proof.Machine

section Bodies

variable {ok : Phase → Prop}

/-- An operation on none of the fields that turns are about. -/
theorem turns_elsewhere {s t : State} (hentries : t.store.entries = s.store.entries) (hclaims : t.claims = s.claims)
    (hqueue : t.queue = s.queue) (hlive : t.requesters.live = s.requesters.live) (hloader : t.loader = s.loader)
    (hstaging : s.batch.staging = .idle → t.batch.staging = .idle ∨ t.loader.phase = .running) : Turns ok s t :=
  turns_of_quiet (quiet_elsewhere hentries hclaims hqueue hlive hloader hstaging)

theorem turns_abortBatch (x : AbortReason) (s : State) : Turns ok s (s.abortBatch x) :=
  turns_elsewhere rfl rfl rfl rfl rfl fun _ => .inl rfl

/-! ### The batch commands (06 R103 to R110) -/

section Batch

variable {s : State} (hrunning : s.loader.phase = .running)

include hrunning

theorem turns_putStaging (x : Staging) : Turns ok s (s.putStaging x) :=
  turns_elsewhere rfl rfl rfl rfl rfl fun _ => .inr hrunning

theorem turns_openTests : Turns ok s s.openTests.1 := by
  unfold State.openTests
  split
  · exact .refl
  · split
    · exact .refl
    · dsimp only
      split
      · exact .refl
      · split
        · exact turns_abortBatch _ s
        · exact turns_elsewhere rfl rfl rfl rfl rfl fun _ => .inr hrunning

theorem turns_loadTests : Turns ok s s.loadTests.1 := by
  unfold State.loadTests
  split
  · exact .refl
  · exact .refl
  · exact turns_abortBatch _ s
  · split
    · exact .refl
    · split
      · exact turns_abortBatch _ s
      · split
        · exact turns_abortBatch _ s
        · exact turns_putStaging hrunning _

theorem turns_discardTests : Turns ok s s.discardTests.1 := by
  unfold State.discardTests
  split
  · exact .refl
  · exact turns_putStaging hrunning _

/-- Demotion takes answers without a tag back to WAITING (05 R87). -/
theorem turns_acceptCommit (g : Group) (n : Nat) (ops : List BatchOp) : Turns ok s (s.acceptCommit g n ops) := by
  refine turns_of_quiet ⟨rfl, keepsCounts_of_entries rfl, fun k => ?_, fun _ => .inl, fun _ => id, .inl ⟨rfl, id⟩,
    fun _ => .inr hrunning⟩
  have hslot : (s.acceptCommit g n ops).queue[k] = demote g s.queue[k] := by
    simp [State.acceptCommit]
  unfold SlotQuiet
  rw [hslot]
  cases s.queue[k] with
  | empty => exact .inl rfl
  | waiting q i => exact .inl rfl
  | ready q i a d =>
    unfold demote
    dsimp only
    split
    · exact .inr ⟨rfl, fun _ hq => .inl hq⟩
    · exact .inl rfl

theorem turns_commitTests : Turns ok s s.commitTests.1 := by
  unfold State.commitTests
  split
  · exact .refl
  · exact turns_abortBatch _ s
  · exact .refl
  · split
    · exact turns_elsewhere rfl rfl rfl rfl rfl fun _ => .inl rfl
    · split
      · exact .refl
      · exact turns_acceptCommit hrunning _ _ _

end Batch

/-! ### The freeze and walk commands (08 R141 to R144, 09 R150 to R160) -/

section Others

variable (s : State)

theorem turns_freezeGroupTests : Turns ok s s.freezeGroupTests.1 := by
  unfold State.freezeGroupTests
  split
  · exact .refl
  · split
    · exact .refl
    · exact turns_elsewhere rfl rfl rfl rfl rfl .inl

theorem turns_thawGroupTests : Turns ok s s.thawGroupTests.1 := by
  unfold State.thawGroupTests
  split
  · exact .refl
  · split
    · exact .refl
    · exact turns_elsewhere rfl rfl rfl rfl rfl .inl

theorem turns_freezeAllTests : Turns ok s s.freezeAllTests.1 := by
  unfold State.freezeAllTests
  split
  · exact .refl
  · exact turns_elsewhere rfl rfl rfl rfl rfl .inl

theorem turns_freezeRangeTests : Turns ok s s.freezeRangeTests.1 := by
  unfold State.freezeRangeTests
  split
  · exact .refl
  · split
    · exact .refl
    · exact turns_elsewhere rfl rfl rfl rfl rfl .inl

theorem turns_startWalk (k : WalkKind) : Turns ok s (s.startWalk k).1 := by
  unfold State.startWalk
  split
  · exact .refl
  · cases k with
    | domainSweep d => exact turns_elsewhere rfl rfl rfl rfl rfl .inl
    | scrub => exact turns_elsewhere rfl rfl rfl rfl rfl .inl

theorem turns_domainSweepTests : Turns ok s s.domainSweepTests.1 := by
  unfold State.domainSweepTests
  split
  · exact .refl
  · exact turns_startWalk s _

theorem turns_walkIn (x : WalkState) (w : Walk) : Turns ok s (s.walkIn x w) :=
  turns_elsewhere rfl rfl rfl rfl rfl .inl

theorem turns_suspendTests : Turns ok s s.suspendTests.1 := by
  unfold State.suspendTests
  split
  · exact .refl
  · split
    · exact turns_walkIn s _ _
    · exact turns_walkIn s _ _
    · exact .refl
    · exact .refl

theorem turns_resumeTests : Turns ok s s.resumeTests.1 := by
  unfold State.resumeTests
  split
  · exact .refl
  · split
    · exact .refl
    · split
      · exact .refl
      · exact turns_walkIn s _ _

theorem turns_cancelTests : Turns ok s s.cancelTests.1 := by
  have hend (w : Walk) : Turns ok s (s.endWalk w .cancelled) := turns_of_quiet (quiet_endWalk w .cancelled s)
  unfold State.cancelTests
  split
  · exact .refl
  · split
    · exact turns_walkIn s _ _
    · exact hend _
    · exact hend _
    · exact hend _

/-! ### FORCE_DRAIN and the requester commands (07 R133, 02 R26, R34, R36) -/

theorem turns_endDrain (i : EntryIx) : Turns ok s (s.endDrain i) := .single (.drained i)

theorem turns_forceDrainTests : Turns ok s s.forceDrainTests.1 := by
  unfold State.forceDrainTests
  split
  · exact .refl
  · split
    · exact ((turns_endDrain s _).thenQuiet (quiet_raise _ _)).settled s
    · exact .refl

theorem turns_domainSetTests : Turns ok s s.domainSetTests.1 := by
  unfold State.domainSetTests
  split
  · exact .refl
  · split
    · exact .refl
    · exact turns_elsewhere rfl rfl rfl rfl rfl .inl

/-- A requester record is written that is not newly DISABLED, or that no record in use names, and begins no clearing. -/
theorem quiet_putRequester {s : State} {r : ReqId} {p : Requester}
    (hstanding : p.standing = .disabled → (s.requester r).standing = .disabled ∨ s.lowestOf r = none)
    (hclearing : (s.requester r).clearing = none → p.clearing = none) : Quiet s (s.putRequester r p) := by
  have hself : (s.putRequester r p).requester r = p := set_get_self _ _ _
  have hother {q : ReqId} (hq : q ≠ r) : (s.putRequester r p).requester q = s.requester q := set_get_ne _ _ hq
  refine ⟨rfl, keepsCounts_of_entries rfl, fun _ => .inl rfl, fun q hq => ?_, fun q hq => ?_, .inl ⟨rfl, id⟩, .inl⟩
  · by_cases hqr : q = r
    · rw [hqr] at hq ⊢
      rw [hself] at hq
      exact (hstanding hq).imp_right .inl
    · rw [hother hqr] at hq
      exact .inl hq
  · by_cases hqr : q = r
    · rw [hqr] at hq ⊢
      rw [hself]
      exact hclearing hq
    · rwa [hother hqr]

theorem turns_acceptClearing (r : ReqId) (x : Clearing) : Turns ok s (s.acceptClearing r x) := .single (.clearing r x)

theorem turns_requesterSetTests : Turns ok s s.requesterSetTests.1 := by
  unfold State.requesterSetTests
  split
  · exact .refl
  · rename_i o _
    split
    · exact .refl
    · cases o.standing with
      | disabled =>
        dsimp only
        exact (turns_acceptClearing s o.requester (.toDisabled o.domain o.limit)).settled s
      | enabled => exact turns_of_quiet (quiet_putRequester (by simp) fun _ => rfl)
      | quarantined => exact turns_of_quiet (quiet_putRequester (by simp) fun _ => rfl)

theorem turns_requesterResetTests : Turns ok s s.requesterResetTests.1 := by
  unfold State.requesterResetTests
  split
  · exact .refl
  · rename_i r _
    split
    · exact .refl
    · dsimp only
      exact (turns_acceptClearing s r .toDefaults).settled s

theorem turns_readEntryAnswer {s u : State} {bytes : List Byte} (h : s.readEntryAnswer = some (u, bytes)) :
    Turns ok s u := by
  unfold State.readEntryAnswer at h
  split at h
  · contradiction
  · cases h
    exact (turns_of_quiet (quiet_readEntry _ _ s)).settled s

end Others

/-! ### The gates of the commands (06 R107, 11 R181, R182) -/

/-- The effect of a command is a chain of turns. -/
def Moving (ok : Phase → Prop) (f : State → State) : Prop := ∀ s, Turns ok s (f s)

theorem quiet_setStatus (e : CommandEnd) (s : State) : Quiet s (s.setStatus e) :=
  quiet_elsewhere rfl rfl rfl rfl rfl .inl

theorem quiet_interrupt (s : State) : Quiet s s.interrupt := by
  unfold State.interrupt
  split
  · exact quiet_elsewhere rfl rfl rfl rfl rfl fun _ => .inl rfl
  · exact quiet_elsewhere rfl rfl rfl rfl rfl .inl

theorem noOpenBatch_interrupt (s : State) : NoOpenBatch s.interrupt := by
  unfold State.interrupt
  split
  · rfl
  · rename_i h
    exact Bool.eq_false_iff.2 h

/-- A command past its gate acts in RUNNING, with no batch open. -/
theorem moving_interrupting {body : State → State × CommandEnd}
    (hbody : ∀ s, s.loader.phase = .running → NoOpenBatch s → Turns ok s (body s).1) :
    Moving ok (State.interrupting body) := by
  intro s
  unfold State.interrupting
  split
  · exact turns_of_quiet (quiet_setStatus _ s)
  · rename_i hstarting
    have hrunning : s.interrupt.loader.phase = .running := by
      rw [State.interrupt_loader]
      exact phase_of_not_starting hstarting
    have hgate : Turns ok s s.interrupt := turns_of_quiet (quiet_interrupt s)
    exact (hgate.trans (hbody _ hrunning (noOpenBatch_interrupt s))).thenQuiet (quiet_setStatus _ _)

theorem moving_batchCommand {body : State → State × CommandEnd}
    (hbody : ∀ s, s.loader.phase = .running → Turns ok s (body s).1) : Moving ok (State.batchCommand body) := by
  intro s
  unfold State.batchCommand
  split
  · exact turns_of_quiet (quiet_setStatus _ s)
  · rename_i hstarting
    exact (hbody s (phase_of_not_starting hstarting)).thenQuiet (quiet_setStatus _ _)

theorem moving_query {answer : State → Option (State × List Byte)}
    (hanswer : ∀ {s u : State} {bytes : List Byte}, answer s = some (u, bytes) → Turns ok s u) :
    Moving ok (State.query answer) := by
  intro s
  unfold State.query
  split
  · rename_i u bytes hu
    refine Turns.thenQuiet (Turns.thenQuiet (hanswer hu) (u := { u with mgmt := { u.mgmt with results := _ } }) ?_)
      (quiet_setStatus .done _)
    exact quiet_elsewhere rfl rfl rfl rfl rfl .inl
  · exact turns_of_quiet (quiet_setStatus _ s)

/-- A query that only looks. -/
theorem moving_query_map {α : Type} (index : State → Option α) (bytes : State → α → List Byte) :
    Moving ok (State.query (fun s => (index s).map (fun k => (s, bytes s k)))) := by
  refine moving_query fun {s u _} h => ?_
  obtain ⟨k, _, hk⟩ := Option.map_eq_some_iff.1 h
  cases hk
  exact .refl

theorem moving_query_some (bytes : State → List Byte) : Moving ok (State.query (fun s => some (s, bytes s))) := by
  refine moving_query fun {s u _} h => ?_
  cases h
  exact .refl

/-! ### The command table (11 R181) -/

theorem moving_batchOpen : Moving ok State.batchOpen := moving_interrupting fun _ hrunning _ => turns_openTests hrunning

theorem moving_batchLoad : Moving ok State.batchLoad := moving_batchCommand fun _ => turns_loadTests

theorem moving_batchCommit : Moving ok State.batchCommit := moving_batchCommand fun _ => turns_commitTests

theorem moving_batchDiscard : Moving ok State.batchDiscard := moving_batchCommand fun _ => turns_discardTests

theorem moving_freezeGroup : Moving ok State.freezeGroup := moving_interrupting fun s _ _ => turns_freezeGroupTests s

theorem moving_thawGroup : Moving ok State.thawGroup := moving_interrupting fun s _ _ => turns_thawGroupTests s

theorem moving_freezeAll : Moving ok State.freezeAll := moving_interrupting fun s _ _ => turns_freezeAllTests s

theorem moving_freezeRange : Moving ok State.freezeRange := moving_interrupting fun s _ _ => turns_freezeRangeTests s

theorem moving_domainSweep : Moving ok State.domainSweep := moving_interrupting fun s _ _ => turns_domainSweepTests s

theorem moving_scrub : Moving ok State.scrub := moving_interrupting fun s _ _ => turns_startWalk s .scrub

theorem moving_sweepSuspend : Moving ok State.sweepSuspend := moving_interrupting fun s _ _ => turns_suspendTests s

theorem moving_sweepResume : Moving ok State.sweepResume := moving_interrupting fun s _ _ => turns_resumeTests s

theorem moving_sweepCancel : Moving ok State.sweepCancel := moving_interrupting fun s _ _ => turns_cancelTests s

theorem moving_forceDrain : Moving ok State.forceDrain := moving_interrupting fun s _ _ => turns_forceDrainTests s

theorem moving_domainSet : Moving ok State.domainSet := moving_interrupting fun s _ _ => turns_domainSetTests s

theorem moving_requesterSet : Moving ok State.requesterSet := moving_interrupting fun s _ _ => turns_requesterSetTests s

theorem moving_requesterReset : Moving ok State.requesterReset :=
  moving_interrupting fun s _ _ => turns_requesterResetTests s

theorem moving_clearErrors : Moving ok State.clearErrors :=
  moving_interrupting fun _ _ _ => turns_elsewhere rfl rfl rfl rfl rfl .inl

theorem moving_tableReset : Moving ok State.tableReset := moving_interrupting fun _ _ hopen => .single (.tableReset hopen)

theorem moving_readEntryQuery : Moving ok State.readEntryQuery := moving_query turns_readEntryAnswer

theorem moving_readClaimQuery : Moving ok State.readClaimQuery := moving_query_map _ _

theorem moving_readPendingQuery : Moving ok State.readPendingQuery := moving_query_map _ _

theorem moving_readDrainQuery : Moving ok State.readDrainQuery := moving_query_map _ _

theorem moving_readRequesterQuery : Moving ok State.readRequesterQuery := moving_query_map _ _

theorem moving_readSweepResultQuery : Moving ok State.readSweepResultQuery := moving_query_some _

theorem moving_readCommitResultQuery : Moving ok State.readCommitResultQuery := moving_query_some _

theorem moving_undefinedCommand : Moving ok State.undefinedCommand := fun s => turns_of_quiet (quiet_setStatus _ s)

/-- A choice between a moving effect and others. -/
theorem moving_mem_ite {c : Prop} [Decidable c] {f : State → State} {rest : Option (State → State)} (hf : Moving ok f)
    (hrest : ∀ g ∈ rest, Moving ok g) : ∀ g ∈ if c then some f else rest, Moving ok g := by
  split
  · rintro g ⟨⟩
    exact hf
  · exact hrest

theorem moving_lowCommand (code : Byte) : ∀ f ∈ lowCommand code, Moving ok f := by
  unfold lowCommand
  exact moving_mem_ite moving_batchOpen <| moving_mem_ite moving_batchLoad <| moving_mem_ite moving_batchCommit <|
    moving_mem_ite moving_batchDiscard <| moving_mem_ite moving_freezeGroup <| moving_mem_ite moving_thawGroup <|
    moving_mem_ite moving_freezeAll <| moving_mem_ite moving_freezeRange <| moving_mem_ite moving_domainSweep <|
    moving_mem_ite moving_scrub <| moving_mem_ite moving_sweepSuspend <| moving_mem_ite moving_sweepResume <|
    moving_mem_ite moving_sweepCancel <| by simp

theorem moving_highCommand (code : Byte) : ∀ f ∈ highCommand code, Moving ok f := by
  unfold highCommand
  exact moving_mem_ite moving_forceDrain <| moving_mem_ite moving_domainSet <| moving_mem_ite moving_requesterSet <|
    moving_mem_ite moving_requesterReset <| moving_mem_ite moving_clearErrors <| moving_mem_ite moving_tableReset <|
    moving_mem_ite moving_readEntryQuery <| moving_mem_ite moving_readClaimQuery <|
    moving_mem_ite moving_readPendingQuery <| moving_mem_ite moving_readDrainQuery <|
    moving_mem_ite moving_readRequesterQuery <| moving_mem_ite moving_readSweepResultQuery <|
    moving_mem_ite moving_readCommitResultQuery <| by simp

theorem quiet_byteTaken (s : State) : Quiet s s.byteTaken := quiet_elsewhere rfl rfl rfl rfl rfl .inl

/-- A load is counted, and the full reset begins (12 R187). -/
theorem turns_fullReset {s u : State} (h : Quiet s u) (r : CommitResult) (x : Transaction) :
    Turns ok s (u.fullReset r x) :=
  (turns_of_quiet h).tail (.fullReset r x)

theorem turns_fullResetCommand (s : State) : Turns ok s s.fullResetCommand :=
  turns_fullReset (s := s) (u := { s with loads := s.loads + 1 }) (quiet_elsewhere rfl rfl rfl rfl rfl .inl) _ _

theorem moving_dispatch (code : Byte) : Moving ok (State.dispatch code) := by
  intro s
  unfold State.dispatch
  split
  · exact turns_fullResetCommand s
  · refine Turns.thenQuiet ?_ (quiet_byteTaken _)
    cases hlow : lowCommand code with
    | some f => exact moving_lowCommand code f hlow s
    | none =>
      cases hhigh : highCommand code with
      | some f => exact moving_highCommand code f hhigh s
      | none => exact moving_undefinedCommand s

end Bodies

end Sys2Proof.Machine
end

section
/-! SUPPORT. Every row of the command table but storage damage is a chain of turns, and so is every step; the laws of carried
tags, claim counts and DISABLED requesters follow turn by turn (04 R67, R70). -/

namespace Sys2Proof.Machine

/-- A next state, if the outcome is one, is reached by a chain of turns. -/
def EndsInTurns (ok : Phase → Prop) (s : State) (o : Host.Outcome State Fault Refusal) : Prop :=
  ∀ t, o = .next t → Turns ok s t

section Rows

variable {ok : Phase → Prop} {s : State}

theorem endsInTurns_next {t : State} (h : Turns ok s t) : EndsInTurns ok s (.next t) := by
  rintro u ⟨⟩
  exact h

theorem endsInTurns_same : EndsInTurns ok s (.next s) := endsInTurns_next .refl

theorem endsInTurns_ite {c : Prop} [Decidable c] {a b : Host.Outcome State Fault Refusal}
    (ha : c → EndsInTurns ok s a) (hb : ¬ c → EndsInTurns ok s b) : EndsInTurns ok s (if c then a else b) := by
  split
  · exact ha ‹c›
  · exact hb ‹¬ c›

/-- A row that does something where its event arises, and nothing elsewhere (log 1). -/
theorem endsInTurns_ite_same {c : Prop} [Decidable c] {t : State} (h : c → Turns ok s t) :
    EndsInTurns ok s (if c then .next t else .next s) :=
  endsInTurns_ite (fun hc => endsInTurns_next (h hc)) fun _ => endsInTurns_same

theorem endsInTurns_atCommandRegister {f : State → State} (hf : Moving ok f) :
    EndsInTurns ok s (atCommandRegister f s) :=
  endsInTurns_ite_same fun _ => (hf s).thenQuiet (quiet_byteTaken _)

/-! ### The Resolve Port (03, 04 R71, 05 R93) -/

theorem endsInTurns_execResolve (hok : ok .running) (r : ReqId) (a : Address) (d : Dir) (c : Bool) :
    EndsInTurns ok s (execResolve r a d c s) :=
  endsInTurns_ite_same fun _ => ((turns_resolveRequest hok _).trans (turns_deliver _ _ _)).settled s

theorem endsInTurns_execRelease (r : ReqId) (t : Tag) : EndsInTurns ok s (execRelease r t s) := by
  refine endsInTurns_ite (fun _ => endsInTurns_ite (fun _ => ?_) fun _ => ?_) fun _ => endsInTurns_same
  · exact endsInTurns_next (turns_deliver _ _ _)
  · exact endsInTurns_next (((turns_releaseRequest r t).trans (turns_deliver _ _ _)).settled s)

/-- A clearing begins or is joined, and the port goes to HOLDING (02 R36, 03 R63). -/
theorem turns_slotResetRequest (r : ReqId) : Turns ok s (s.slotResetRequest r) := by
  have hport {u : State} (h : Turns ok s u) : Turns ok s { u with port := .holding r } :=
    h.thenQuiet (quiet_elsewhere rfl rfl rfl rfl rfl .inl)
  by_cases hclearing : (s.requester r).clearing = none
  · rw [slotResetRequest_accepts hclearing]
    exact hport (turns_acceptClearing s r .toDefaults)
  · rw [slotResetRequest_joins hclearing]
    exact hport (turns_of_quiet (quiet_putRequester .inl fun hnone => absurd hnone hclearing))

theorem endsInTurns_execSlotReset (r : ReqId) : EndsInTurns ok s (execSlotReset r s) := by
  refine endsInTurns_ite (fun _ => endsInTurns_ite (fun _ => ?_) fun _ => ?_) fun _ => endsInTurns_same
  · exact endsInTurns_next (turns_deliver _ _ _)
  · exact endsInTurns_next ((turns_slotResetRequest r).settled s)

theorem endsInTurns_execMalformedRequest (k : BitVec 3) : EndsInTurns ok s (execMalformedRequest k s) :=
  endsInTurns_ite_same fun _ => turns_elsewhere rfl rfl rfl rfl rfl .inl

theorem endsInTurns_execRspTaken : EndsInTurns ok s (execRspTaken s) := by
  unfold execRspTaken
  split
  · exact endsInTurns_next (turns_elsewhere rfl rfl rfl rfl rfl .inl)
  · exact endsInTurns_same
  · exact endsInTurns_same

/-! ### Clearings and deadlines (02 R32, R38, R39, 05 R93, 07 R132) -/

theorem endsInTurns_execRequesterClearingFree (r : ReqId) : EndsInTurns ok s (execRequesterClearingFree r s) := by
  refine endsInTurns_ite (fun hclearing => ?_) fun _ => endsInTurns_same
  split
  · exact endsInTurns_next ((turns_clearingFree hclearing ‹_›).settled s)
  · exact endsInTurns_same

/-- A clearing completes when no record in use names its requester. -/
theorem endsInTurns_execRequesterClearingCompletion (r : ReqId) :
    EndsInTurns ok s (execRequesterClearingCompletion r s) := by
  have hnone (c : Clearing) (d : RequesterDefault) : (clearedRequester d c).clearing = none := by
    cases c <;> rfl
  unfold execRequesterClearingCompletion
  split
  · rename_i c _ hlowest
    have hput : Turns ok s (s.putRequester r (clearedRequester s.requesters.defaults[r] c)) :=
      turns_of_quiet (quiet_putRequester (fun _ => .inr hlowest) fun _ => hnone c _)
    exact endsInTurns_next (hput.trans (turns_elsewhere rfl rfl rfl rfl rfl .inl))
  · exact endsInTurns_same

theorem endsInTurns_execQuarantineDeadlineExpiry (r : ReqId) : EndsInTurns ok s (execQuarantineDeadlineExpiry r s) := by
  refine endsInTurns_ite_same fun _ => ?_
  have hput : Turns ok s (s.putRequester r { s.requester r with standing := .enabled, deadline := none }) :=
    turns_of_quiet (quiet_putRequester (fun h => by contradiction) id)
  exact hput.thenQuiet (quiet_raise _ _)

theorem endsInTurns_execDiscardDeadlineExpiry (k : SlotIx) : EndsInTurns ok s (execDiscardDeadlineExpiry k s) := by
  unfold execDiscardDeadlineExpiry
  split
  · rename_i q i a d _
    have hdrop : Turns ok s (s.dropSlot k) := .single (.dropped k)
    exact endsInTurns_ite_same fun _ => ((hdrop.thenQuiet (quiet_report _ _)).thenQuiet (quiet_fault _ _ _)).settled s
  · exact endsInTurns_same
  · exact endsInTurns_same

theorem endsInTurns_execDrainExpiry (p : Fin 16) : EndsInTurns ok s (execDrainExpiry p s) := by
  unfold execDrainExpiry
  split
  · exact endsInTurns_ite_same fun _ => ((turns_endDrain s _).thenQuiet (quiet_report _ _)).settled s
  · exact endsInTurns_same

/-! ### The commit (06 R112 to R121) -/

theorem quiet_closeCommit (r : CommitResult) (s : State) : Quiet s (s.closeCommit r) :=
  quiet_elsewhere rfl rfl rfl rfl rfl fun _ => .inl rfl

/-- A commit ends with the evaluation of the WAITING slots. -/
theorem turns_endCommit (hphase : ok s.loader.phase) (r : CommitResult) :
    Turns ok s (State.evaluateWaiting (s.closeCommit r)) :=
  (turns_of_quiet (quiet_closeCommit r s)).trans (turns_evaluateWaiting hphase)

/-- A COMMITTING buffer stays so. -/
theorem quiet_putStaging_committing {u : State} (hu : u.batch.staging ≠ .idle) (x : Staging) : Quiet u (u.putStaging x) :=
  quiet_elsewhere rfl rfl rfl rfl rfl fun hidle => absurd hidle hu

theorem endsInTurns_execCommitValidation (hcommit : committing s.batch.staging = true → ok s.loader.phase) :
    EndsInTurns ok s (execCommitValidation s) := by
  unfold execCommitValidation
  split
  · rename_i g n ops copies k t hs
    have hphase : ok s.loader.phase := hcommit (by rw [hs]; rfl)
    split
    · rename_i op _
      have hread : Turns ok s (s.readEntry .commit (opEntry op)) := turns_of_quiet (quiet_readEntry _ _ _)
      dsimp only
      split
      · have hphase' : ok ((s.readEntry .commit (opEntry op)).report
            (.commitReject ‹_› (some (opEntry op)))).loader.phase := by
          rwa [State.report_loader, State.readEntry_loader]
        exact endsInTurns_next (((hread.thenQuiet (quiet_report _ _)).trans (turns_endCommit hphase' _)).settled s)
      · have hstaging : (s.readEntry .commit (opEntry op)).batch.staging ≠ .idle := by
          rw [State.readEntry_batch, hs]
          exact Staging.noConfusion
        exact endsInTurns_next ((hread.thenQuiet (quiet_putStaging_committing hstaging _)).settled s)
    · exact endsInTurns_same
  · exact endsInTurns_same

/-- An application writes its entry whole but for the claim count (01 R12, 06 R117). -/
theorem keepsCounts_applyOp (op : BatchOp) (c : ValidatedCopy) (s : State) : KeepsCounts s (s.applyOp op c).1 := by
  have hwrite (i : EntryIx) (base x : Contents) (bad : Bool) :
      KeepsCounts s (s.putEntry i (rewriteEntry (s.entry i) base x bad)) := keepsCounts_putEntry fun _ => rfl
  cases op with
  | install i p bad => exact hwrite i _ _ bad
  | amend i a x m bad =>
    unfold State.applyOp
    dsimp only [opEntry]
    split
    · exact hwrite i _ _ bad
    · exact keepsCounts_of_entries rfl
  | revoke i =>
    unfold State.applyOp State.applyRevoke
    dsimp only [opEntry]
    split
    · exact hwrite i _ _ false
    · split
      · exact hwrite i _ _ false
      · exact keepsCounts_of_entries rfl

theorem quiet_applyOp (op : BatchOp) (c : ValidatedCopy) (s : State) : Quiet s (s.applyOp op c).1 := by
  have hcounts := keepsCounts_applyOp op c s
  obtain ⟨_, _, _, h⟩ := State.applyOp_shape op c s
  rw [h] at hcounts ⊢
  exact quiet_of_frame rfl rfl rfl rfl hcounts .inl

theorem endsInTurns_execCommitApplication : EndsInTurns ok s (execCommitApplication s) := by
  unfold execCommitApplication
  split
  · rename_i g n ops copies k t hs
    refine endsInTurns_ite (fun _ => ?_) fun _ => endsInTurns_same
    split
    · rename_i op c _ _
      have happly : Turns ok s (s.applyOp op c).1 := turns_of_quiet (quiet_applyOp op c s)
      have hstaging : (s.applyOp op c).1.batch.staging ≠ .idle := by
        rw [State.applyOp_batch, hs]
        exact Staging.noConfusion
      exact endsInTurns_next (happly.thenQuiet (quiet_putStaging_committing hstaging _))
    · exact endsInTurns_same
  · exact endsInTurns_same

theorem endsInTurns_execCommitCompletion (hcommit : committing s.batch.staging = true → ok s.loader.phase) :
    EndsInTurns ok s (execCommitCompletion s) := by
  unfold execCommitCompletion
  split
  · rename_i hs
    exact endsInTurns_ite_same fun _ => (turns_endCommit (hcommit (by rw [hs]; rfl)) _).settled s
  · exact endsInTurns_same

/-! ### Walks (09 R153 to R156) -/

theorem endsInTurns_execSweepStep : EndsInTurns ok s (execSweepStep s) := by
  unfold execSweepStep
  split
  · exact endsInTurns_same
  · split
    · exact endsInTurns_ite_same fun _ => turns_sweepStepOf _ _ s
    · exact endsInTurns_same

theorem endsInTurns_execScrubStep : EndsInTurns ok s (execScrubStep s) := by
  unfold execScrubStep
  split
  · exact endsInTurns_same
  · split
    · exact endsInTurns_ite_same fun _ => turns_scrubStepOf _ s
    · exact endsInTurns_same

theorem endsInTurns_execSweepRetake : EndsInTurns ok s (execSweepRetake s) := by
  unfold execSweepRetake
  split
  · exact endsInTurns_ite_same fun _ => turns_retake s
  · exact endsInTurns_same

/-! ### Start-up and the register window (11, 12 R187, R189) -/

theorem endsInTurns_execImageLoadDone : EndsInTurns ok s (execImageLoadDone s) :=
  endsInTurns_ite_same fun h => turns_imageLoadDone h.1

theorem endsInTurns_execPreloadReloadDone : EndsInTurns ok s (execPreloadReloadDone s) :=
  endsInTurns_ite_same fun _ => turns_preloadReloadDone s

theorem endsInTurns_execPowerOn (b : Board) : EndsInTurns ok s (execPowerOn b s) :=
  endsInTurns_next (turns_fullReset (s := s) (u := { s with board := b, resetLow := false, loads := 0 })
    (quiet_elsewhere rfl rfl rfl rfl rfl .inl) _ _)

theorem endsInTurns_execResetAssert : EndsInTurns ok s (execResetAssert s) :=
  endsInTurns_ite (fun _ => endsInTurns_same) fun _ =>
    endsInTurns_next (turns_fullReset (s := s) (u := { s with resetLow := true, loads := s.loads + 1 })
      (quiet_elsewhere rfl rfl rfl rfl rfl .inl) _ _)

theorem endsInTurns_execResetRelease : EndsInTurns ok s (execResetRelease s) :=
  endsInTurns_next (turns_elsewhere rfl rfl rfl rfl rfl .inl)

theorem endsInTurns_execFullReset : EndsInTurns ok s (execFullReset s) :=
  endsInTurns_ite_same fun _ => turns_fullResetCommand s

theorem quiet_writeSetting (f : Settings → Settings) (s : State) : Quiet s (s.writeSetting f) := by
  unfold State.writeSetting
  split
  · exact quiet_elsewhere rfl rfl rfl rfl rfl .inl
  · exact quiet_elsewhere rfl rfl rfl rfl rfl .inl

theorem quiet_writeAlert (v : Byte) (s : State) : Quiet s (s.writeAlert v) := quiet_elsewhere rfl rfl rfl rfl rfl .inl

theorem quiet_storeByte (a : Nat) (v : Byte) (s : State) : Quiet s (s.storeByte a v) := by
  unfold State.storeByte
  split
  · exact quiet_writeAlert v s
  · split
    · exact quiet_writeSetting _ s
    · split
      · exact quiet_writeSetting _ s
      · split
        · exact quiet_writeSetting _ s
        · split
          · exact quiet_elsewhere rfl rfl rfl rfl rfl .inl
          · exact quiet_elsewhere rfl rfl rfl rfl rfl .inl

/-- The byte of a write is taken. -/
theorem Turns.byteTaken {u : State} (h : Quiet s u) : Turns ok s u.byteTaken :=
  (turns_of_quiet h).thenQuiet (quiet_byteTaken u)

theorem turns_readNext (b : ReadBus) : Turns ok s (s.readNext b) := turns_elsewhere rfl rfl rfl rfl rfl .inl

theorem turns_writeNext (v : Byte) : Turns ok s (s.writeNext v) := by
  unfold State.writeNext
  split
  · exact moving_dispatch v s
  · exact .byteTaken (quiet_storeByte _ v s)

end Rows

/-! ### Every row (95) -/

/-- Claims are granted in RUNNING alone, but for those at the end of a commit. -/
theorem endsInTurns_exec {ok : Phase → Prop} (hok : ok .running) {s : State}
    (hcommit : committing s.batch.staging = true → ok s.loader.phase) (c : Instr) (hc : ∀ i e, c ≠ .storageDamage i e) :
    EndsInTurns ok s (exec c s) := by
  cases c with
  | resolve r a d c => exact endsInTurns_execResolve hok r a d c
  | release r t => exact endsInTurns_execRelease r t
  | slotReset r => exact endsInTurns_execSlotReset r
  | malformedRequest k => exact endsInTurns_execMalformedRequest k
  | rspTaken => exact endsInTurns_execRspTaken
  | requesterClearingFree r => exact endsInTurns_execRequesterClearingFree r
  | requesterClearingCompletion r => exact endsInTurns_execRequesterClearingCompletion r
  | quarantineDeadlineExpiry r => exact endsInTurns_execQuarantineDeadlineExpiry r
  | discardDeadlineExpiry k => exact endsInTurns_execDiscardDeadlineExpiry k
  | drainExpiry p => exact endsInTurns_execDrainExpiry p
  | commitValidation => exact endsInTurns_execCommitValidation hcommit
  | commitApplication => exact endsInTurns_execCommitApplication
  | commitCompletion => exact endsInTurns_execCommitCompletion hcommit
  | sweepStep => exact endsInTurns_execSweepStep
  | scrubStep => exact endsInTurns_execScrubStep
  | sweepRetake => exact endsInTurns_execSweepRetake
  | imageLoadDone => exact endsInTurns_execImageLoadDone
  | preloadReloadDone => exact endsInTurns_execPreloadReloadDone
  | powerOn b => exact endsInTurns_execPowerOn b
  | resetAssert => exact endsInTurns_execResetAssert
  | resetRelease => exact endsInTurns_execResetRelease
  | batchOpen => exact endsInTurns_atCommandRegister moving_batchOpen
  | batchLoad => exact endsInTurns_atCommandRegister moving_batchLoad
  | batchCommit => exact endsInTurns_atCommandRegister moving_batchCommit
  | batchDiscard => exact endsInTurns_atCommandRegister moving_batchDiscard
  | freezeGroup => exact endsInTurns_atCommandRegister moving_freezeGroup
  | thawGroup => exact endsInTurns_atCommandRegister moving_thawGroup
  | freezeAll => exact endsInTurns_atCommandRegister moving_freezeAll
  | freezeRange => exact endsInTurns_atCommandRegister moving_freezeRange
  | domainSweep => exact endsInTurns_atCommandRegister moving_domainSweep
  | scrub => exact endsInTurns_atCommandRegister moving_scrub
  | sweepSuspend => exact endsInTurns_atCommandRegister moving_sweepSuspend
  | sweepResume => exact endsInTurns_atCommandRegister moving_sweepResume
  | sweepCancel => exact endsInTurns_atCommandRegister moving_sweepCancel
  | forceDrain => exact endsInTurns_atCommandRegister moving_forceDrain
  | domainSet => exact endsInTurns_atCommandRegister moving_domainSet
  | requesterSet => exact endsInTurns_atCommandRegister moving_requesterSet
  | requesterReset => exact endsInTurns_atCommandRegister moving_requesterReset
  | clearErrors => exact endsInTurns_atCommandRegister moving_clearErrors
  | tableReset => exact endsInTurns_atCommandRegister moving_tableReset
  | readEntry => exact endsInTurns_atCommandRegister moving_readEntryQuery
  | readClaim => exact endsInTurns_atCommandRegister moving_readClaimQuery
  | readPending => exact endsInTurns_atCommandRegister moving_readPendingQuery
  | readDrain => exact endsInTurns_atCommandRegister moving_readDrainQuery
  | readRequester => exact endsInTurns_atCommandRegister moving_readRequesterQuery
  | readSweepResult => exact endsInTurns_atCommandRegister moving_readSweepResultQuery
  | readCommitResult => exact endsInTurns_atCommandRegister moving_readCommitResultQuery
  | fullReset => exact endsInTurns_execFullReset
  | undefinedCommandCode c =>
    exact endsInTurns_ite (fun _ => endsInTurns_same) fun _ => endsInTurns_atCommandRegister moving_undefinedCommand
  | eventRegisterRead b => exact endsInTurns_ite_same fun _ => turns_readNext b
  | alertAssertedClear v => exact endsInTurns_ite_same fun _ => .byteTaken (quiet_writeAlert v s)
  | overrideClear v => exact endsInTurns_ite_same fun _ => .byteTaken (quiet_writeAlert v s)
  | overrideSet v => exact endsInTurns_ite_same fun _ => .byteTaken (quiet_writeAlert v s)
  | singleByteSettingWrite v => exact endsInTurns_ite_same fun _ => .byteTaken (quiet_writeSetting _ s)
  | settingLowerByteWrite v => exact endsInTurns_ite_same fun _ => .byteTaken (quiet_writeSetting _ s)
  | settingHigherByteWrite v => exact endsInTurns_ite_same fun _ => .byteTaken (quiet_writeSetting _ s)
  | multiByteCaptureRead b => exact endsInTurns_ite_same fun _ => turns_readNext b
  | pointerSet b v => exact endsInTurns_ite_same fun _ => turns_elsewhere rfl rfl rfl rfl rfl .inl
  | registerWrite b v => exact endsInTurns_ite_same fun _ => turns_writeNext v
  | storageDamage i e => exact absurd rfl (hc i e)
  | transactionEnd x => exact endsInTurns_ite_same fun _ => turns_elsewhere rfl rfl rfl rfl rfl .inl

/-! ### Every step -/

/-- No expiry that is due is storage damage. -/
theorem dueEvent_ne_storageDamage {s : State} {c : Instr} (h : s.dueEvent = some c) (i : EntryIx) (e : GrantEntry) :
    c ≠ .storageDamage i e := by
  have hdue : s.dueExpiries ≠ [] := fun hnone => by
    rw [dueEvent_of_none hnone] at h
    contradiction
  obtain ⟨x, hx, hevent⟩ := dueEvent_mem hdue
  obtain rfl : x = c := Option.some.inj (hevent.symm.trans h)
  rcases (mem_dueExpiries s x).1 hx with ⟨_, _, rfl, _⟩ | ⟨_, _, _, _, _, rfl, _⟩ | ⟨_, _, _, rfl, _⟩
  · exact Instr.noConfusion
  · exact Instr.noConfusion
  · exact Instr.noConfusion

theorem turns_step {ok : Phase → Prop} (hok : ok .running) {s t : State}
    (hcommit : committing s.batch.staging = true → ok s.loader.phase) (hdamage : ¬ DamageNext s) (h : step s = .next t) :
    Turns ok s t := by
  cases hp : s.pending with
  | cons c rest =>
    have hexec : exec c { s with pending := rest } = .next t := by
      rw [← h]
      unfold step
      rw [hp]
    have hc (i : EntryIx) (e : GrantEntry) : c ≠ .storageDamage i e := fun hce => hdamage ⟨i, e, rest, hce ▸ hp⟩
    have hfront : Turns ok s { s with pending := rest } := turns_elsewhere rfl rfl rfl rfl rfl .inl
    exact hfront.trans (endsInTurns_exec (s := { s with pending := rest }) hok hcommit c hc t hexec)
  | nil =>
    cases hdue : s.dueEvent with
    | some c =>
      rw [step_of_expiry hp hdue] at h
      have hfree : Turns ok s { s with free := s.free + 1 } := turns_elsewhere rfl rfl rfl rfl rfl .inl
      exact hfree.trans (endsInTurns_exec (s := { s with free := s.free + 1 }) hok hcommit c
        (dueEvent_ne_storageDamage hdue) t h)
    | none =>
      rw [step_of_no_expiry hp hdue] at h
      cases h
      exact turns_tick s

/-- Storage damage changes entries alone (01 R20). -/
theorem step_of_damage {s t : State} (hdamage : DamageNext s) (h : step s = .next t) :
    ∃ x rest, t = { s with store := x, pending := rest } := by
  obtain ⟨i, e, rest, hp⟩ := hdamage
  unfold step at h
  rw [hp] at h
  cases h
  exact ⟨_, rest, rfl⟩

/-! ### The laws -/

/-- Settles O57: every turn keeps the count law, and a step that is no storage damage is a chain of turns. -/
theorem countLawHolds : Obligations.CountLawHolds := by
  intro s t hs hdamage hstep
  exact kept_of_turns countLaw_turn (turns_step (ok := fun _ => True) trivial (fun _ => trivial) hdamage hstep) hs

/-- Settles O56: every turn keeps the law of carried tags; storage damage touches nothing it speaks of. -/
theorem carriedLawHolds : Obligations.CarriedLawHolds := by
  intro s t hs hstep
  by_cases hdamage : DamageNext s
  · obtain ⟨_, _, rfl⟩ := step_of_damage hdamage hstep
    exact hs
  · exact kept_of_turns carriedLaw_turn (turns_step (ok := fun _ => True) trivial (fun _ => trivial) hdamage hstep) hs

/-- A commit runs in RUNNING alone (12 R187, R188). -/
theorem running_of_committing {s : State} (hs : DisabledLaw s) (h : committing s.batch.staging = true) :
    s.loader.phase = .running := by
  obtain ⟨_, _, hidle, _⟩ := hs
  by_contra hphase
  rw [hidle hphase] at h
  contradiction

/-- Settles O58: every turn keeps the law when claims are granted in RUNNING alone, and the law itself says that no commit
runs elsewhere. -/
theorem disabledLawHolds : Obligations.DisabledLawHolds := by
  intro s t hs hstep
  by_cases hdamage : DamageNext s
  · obtain ⟨_, _, rfl⟩ := step_of_damage hdamage hstep
    exact hs
  · exact kept_of_turns disabledLaw_turn (turns_step (ok := (· = .running)) rfl (running_of_committing hs) hdamage hstep) hs

end Sys2Proof.Machine
end

section
/-! SUPPORT. Freeing a claim record, and the releases of ACTIVE, ORPHANED, FREE and foreign tags (04 R71 to R80, R131). -/

namespace Sys2Proof.Machine

/-! ### A claim count falls (04 R78, R80) -/

theorem lowered_of_succ {c n : Fin 65} (h : n.val + 1 = c.val) (free : Nat) : lowered c free = n := by
  have hval := lowered_val (c := c) (by omega) free
  exact Fin.ext (by omega)

/-- A count above 0 takes no free value; short of the end of a drain the entry's count changes alone. -/
theorem lowerCount_of_succ {s : State} {i : EntryIx} {n : Fin 65} (hn : n.val + 1 = (s.entry i).claimCount.val)
    (hstays : ¬ (isRevoking (s.entry i).contents = true ∧ n = 0)) :
    s.lowerCount i = s.putEntry i { s.entry i with claimCount := n } := by
  have hpos : (s.entry i).claimCount.val ≠ 0 := by omega
  have hends : ¬ (n.val = 0 ∧ isRevoking (s.entry i).contents = true) := fun h => hstays ⟨h.2, Fin.ext h.1⟩
  unfold State.lowerCount
  simp only [lowered_of_succ hn, if_neg hpos, if_neg hends]

/-- The last claim of a REVOKING entry goes, and its drain completes. -/
theorem lowerCount_completes {s : State} {i : EntryIx} (hcount : (s.entry i).claimCount = 1)
    (hrevoking : isRevoking (s.entry i).contents = true) :
    s.lowerCount i = { s.putEntry i ⟨.vacant, 0, (s.entry i).generation + 1#16, false⟩ with
      drain := removeDrain i s.drain
      errors := raiseEvent .drainDone s.errors } := by
  have hone : (s.entry i).claimCount.val = 1 := congrArg Fin.val hcount
  have hlowered : lowered (s.entry i).claimCount s.free = 0 := lowered_of_succ (by rw [hone]; rfl) s.free
  have hpos : (s.entry i).claimCount.val ≠ 0 := by omega
  have hlisted : { s.entry i with claimCount := 0 } ≠ clearedEntry := by
    intro hcleared
    rw [show (s.entry i).contents = .vacant from congrArg GrantEntry.contents hcleared] at hrevoking
    contradiction
  unfold State.lowerCount
  simp only [hlowered, if_neg hpos, hrevoking, Fin.val_zero, and_self, if_true]
  unfold State.completeDrain
  dsimp only
  have hentry := State.entry_putEntry_listed s i hlisted
  have hput := Table.put_put_of_ne s.store.entries i.val
    ⟨.vacant, 0, (s.entry i).generation + 1#16, false⟩ hlisted
  have hreplaced : replaceEntry { s.entry i with claimCount := 0 } .vacant =
      ⟨.vacant, 0, (s.entry i).generation + 1#16, false⟩ := rfl
  show State.raise .drainDone { (s.putEntry i { s.entry i with claimCount := 0 }).putEntry i
    (replaceEntry ((s.putEntry i { s.entry i with claimCount := 0 }).entry i) .vacant) with
      drain := removeDrain i s.drain } = _
  rw [hentry, hreplaced]
  unfold State.putEntry State.raise
  dsimp only
  rw [hput]

/-! ### A record becomes FREE (04 R78) -/

theorem freeClaim_of_free {s : State} {t : Tag} (h : s.claims[t] = .free) : s.freeClaim t = s := by
  unfold State.freeClaim
  rw [h]

theorem freeClaim_of_orphaned {s : State} {t : Tag} {c : Claim} (h : s.claims[t] = .orphaned c) :
    s.freeClaim t = s.putClaim t .free := by
  unfold State.freeClaim
  rw [h]

theorem freeClaim_of_active {s : State} {t : Tag} {c : Claim} (h : s.claims[t] = .active c) :
    s.freeClaim t = (s.putClaim t .free).lowerCount c.entry := by
  unfold State.freeClaim
  rw [h]

/-- Settles O11, record state by record state, and for an ACTIVE record by whether its entry's drain completes. -/
theorem freeingAClaim : Obligations.FreeingAClaim := by
  intro t s
  refine ⟨freeClaim_of_free, fun c h => freeClaim_of_orphaned h, fun c n h hn hstays => ?_,
    fun c h hcount hrevoking => ?_⟩
  · rw [freeClaim_of_active h, lowerCount_of_succ (s := s.putClaim t .free) hn hstays]
    rfl
  · rw [freeClaim_of_active h, lowerCount_completes (s := s.putClaim t .free) hcount hrevoking]
    rfl

/-! ### RELEASE (04 R71 to R75) -/

/-- In RUNNING a RELEASE is answered by the case its record gives. -/
theorem exec_release {s : State} (h : PortOpen s) {r : ReqId} {t : Tag} {u : State} {a : Response}
    (hrequest : s.releaseRequest r t = (u, a)) : exec (.release r t) s = .next (settle s (u.deliver r a)) := by
  obtain ⟨hport, hphase⟩ := h
  show execRelease r t s = _
  unfold execRelease
  rw [if_pos (portReady_eq_true hport), starting_eq_false hphase, hrequest]
  rfl

/-- A RELEASE that leaves the Table Store and the Drain List brings about no retake. -/
theorem exec_release_of_table_kept {s : State} (h : PortOpen s) {r : ReqId} {t : Tag} {u : State} {a : Response}
    (hrequest : s.releaseRequest r t = (u, a)) (hstore : u.store = s.store) (hdrain : u.drain = s.drain) :
    exec (.release r t) s = .next (u.deliver r a) := by
  rw [exec_release h hrequest]
  refine congrArg _ (settle_of_same (by rw [State.deliver_drain, hdrain]) fun _ _ => State.entry_congr ?_ _)
  rw [State.deliver_store, hstore]

theorem carrier_eq_none {s : State} {t : Tag} (h : ∀ k : SlotIx, slotTag s.queue[k] ≠ some t) : s.carrier t = none :=
  find_finRange_none.2 fun k => beq_eq_false_iff_ne.2 (h k)

theorem carrier_eq_some {s : State} {t : Tag} {k : SlotIx} (hk : slotTag s.queue[k] = some t)
    (hlowest : ∀ j : SlotIx, j < k → slotTag s.queue[j] ≠ some t) : s.carrier t = some k :=
  find_finRange_some.2 ⟨beq_iff_eq.2 hk, fun j hj => beq_eq_false_iff_ne.2 (hlowest j hj)⟩

/-- The answer to the release of a claim its requester holds (04 R72, R74). -/
def releaseAnswer (v : Verdict) (t : Tag) (c : Claim) : Response := ⟨v, none, some c.generation, some t, some c.entry⟩

/-- The answer to a refused release (04 R75). -/
def releaseRefusal (v : Verdict) (t : Tag) : Response := ⟨v, none, none, some t, none⟩

section Cases

variable {s : State} {t : Tag}

theorem releaseRequest_uncarried {c : Claim} (hc : s.claims[t] = .active c) (h : s.carrier t = none) :
    s.releaseRequest c.requester t = (s.freeClaim t, releaseAnswer .released t c) := by
  unfold State.releaseRequest
  simp only [hc, h, if_true]
  rfl

theorem releaseRequest_carried {c : Claim} {k : SlotIx} (hc : s.claims[t] = .active c) (h : s.carrier t = some k) :
    s.releaseRequest c.requester t = ((s.putSlot k .empty).freeClaim t, releaseAnswer .released t c) := by
  unfold State.releaseRequest
  simp only [hc, h, if_true]
  rfl

theorem releaseRequest_orphaned {c : Claim} (hc : s.claims[t] = .orphaned c) :
    s.releaseRequest c.requester t = (s.putClaim t .free, releaseAnswer .releasedLate t c) := by
  unfold State.releaseRequest
  simp only [hc, if_true, freeClaim_of_orphaned hc]
  rfl

theorem releaseRequest_free (hc : s.claims[t] = .free) (r : ReqId) :
    s.releaseRequest r t = (s, releaseRefusal .refusedUnknownTag t) := by
  unfold State.releaseRequest
  simp only [hc]
  rfl

theorem releaseRequest_foreign {c : Claim} (hc : claimOf s.claims[t] = some c) {r : ReqId} (hr : c.requester ≠ r) :
    s.releaseRequest r t = (s, releaseRefusal .refusedForeignTag t) := by
  unfold State.releaseRequest
  cases hrecord : s.claims[t] with
  | free =>
    rw [hrecord] at hc
    contradiction
  | active x =>
    rw [hrecord] at hc
    cases hc
    exact if_neg hr
  | orphaned x =>
    rw [hrecord] at hc
    cases hc
    exact if_neg hr

end Cases

/-- Settles O12: the tag is carried by no slot, or the lowest slot that carries it is emptied; RELEASED is no fault. -/
theorem releaseOfActive : Obligations.ReleaseOfActive := by
  intro t c s hopen hc answer
  refine ⟨fun huncarried => ?_, fun k hk hlowest => ?_⟩
  · rw [exec_release hopen (releaseRequest_uncarried hc (carrier_eq_none huncarried)), deliver_of_no_fault rfl]
    rfl
  · rw [exec_release hopen (releaseRequest_carried hc (carrier_eq_some hk hlowest)), deliver_of_no_fault rfl]
    rfl

/-- Settles O13: none of the three releases touches the table, so each is its answer with the fault it incurs. -/
theorem releaseOfOthers : Obligations.ReleaseOfOthers := by
  intro r t s hopen
  refine ⟨fun c hc hr => ?_, fun hc => ?_, fun c hc hr => ?_⟩
  · subst hr
    rw [exec_release_of_table_kept hopen (releaseRequest_orphaned hc) rfl rfl, deliver_of_no_fault rfl]
    rfl
  · rw [exec_release_of_table_kept hopen (releaseRequest_free hc r) rfl rfl, deliver_of_fault rfl]
    rfl
  · rw [exec_release_of_table_kept hopen (releaseRequest_foreign hc hr) rfl rfl, deliver_of_fault rfl]
    rfl

end Sys2Proof.Machine
end

section
/-! SUPPORT. TABLE_RESET accepted: the walk is cancelled, the commit abandoned, the claims freed or orphaned (12 R188). -/

namespace Sys2Proof.Machine

/-! ### The commit is abandoned (06 R123) -/

theorem abandonedBatch_abort (b : BatchUnit) : (abandonedBatch b).abort = b.abort := by
  unfold abandonedBatch
  split
  · rfl
  · rfl

theorem abandonedBatch_result_committing {b : BatchUnit} {g : Group} {n k : Nat} {ops : List BatchOp}
    {copies : List ValidatedCopy} {t : Tally} (h : b.staging = .committing g n ops copies k t) :
    (abandonedBatch b).result = .abandoned g ops.length := by
  unfold abandonedBatch
  rw [h]

theorem abandonedBatch_of_not_committing {b : BatchUnit} (h : committing b.staging = false) : abandonedBatch b = b := by
  unfold abandonedBatch
  split
  · rename_i hb
    rw [hb] at h
    contradiction
  · rfl

/-! ### The claims (04 R66) -/

theorem acceptTableReset_claim_carried {s : State} {t : Tag} {k : SlotIx} (h : slotTag s.queue[k] = some t) :
    s.acceptTableReset.claims[t] = .free := by
  have hcarried : s.carrier t ≠ none := fun hnone => beq_eq_false_iff_ne.1 (find_finRange_none.1 hnone k) h
  rw [acceptTableReset_claim, if_pos (Option.isSome_iff_ne_none.2 hcarried)]

theorem acceptTableReset_claim_uncarried {s : State} {t : Tag} (h : ∀ k : SlotIx, slotTag s.queue[k] ≠ some t) :
    s.acceptTableReset.claims[t] = orphan s.claims[t] := by
  rw [acceptTableReset_claim, carrier_eq_none h]
  rfl

theorem orphan_of_not_active {c : ClaimRecord} (h : ∀ x, c ≠ .active x) : orphan c = c := by
  cases c with
  | free => rfl
  | active x => exact absurd rfl (h x)
  | orphaned x => rfl

/-! ### The acceptance (12 R188) -/

/-- The words of the captured place are those the NVM holds at this load (12 R189, log 4). -/
theorem resetTables_work (s : State) :
    (s.loader.capture = none → s.resetTables.loader.work = .preload [] [] 0)
      ∧ ∀ x, s.loader.capture = some x →
          s.resetTables.loader.work = .preload (nvmWords s.resetTables.nvm (x.offset + 1) x.length) [] 0 := by
  unfold State.resetTables
  dsimp only
  refine ⟨fun h => ?_, fun x h => ?_⟩
  · rw [h]
    rfl
  · rw [h]
    rfl

/-- Settles O35: claims and slots by their lemmas, the commit and the walk by theirs, and the rest by the shape of the
acceptance. -/
theorem tableResetAccepted : Obligations.TableResetAccepted := by
  intro s hcommanded hopen
  have hexec : exec .tableReset s = .next (s.acceptTableReset.ended .busyStarted) :=
    atCommandRegister_interrupting hcommanded hopen State.tableResetTests
  have hslot := acceptTableReset_slot s
  have hcarried (x : Tag) (k : SlotIx) := acceptTableReset_claim_carried (s := s) (t := x) (k := k)
  have huncarried (x : Tag) := acceptTableReset_claim_uncarried (s := s) (t := x)
  have hentry := acceptTableReset_entry s
  obtain ⟨hwalk, hpass, hlive, hdefaults, hfirst, hnext, hoverride, halert⟩ := cancelWalk_keeps s
  obtain ⟨hnothing, hcaptured⟩ := resetTables_work s
  have hshape := acceptTableReset_eq s
  refine ⟨_, hexec, ?phase, hslot, hcarried, fun x c hc hx => ?orphaned, fun x hc hx => ?others, ?staging, ?lock, ?abort,
    fun g n ops copies k y hs => ?abandoned, fun hs => ?no_commit, ?walk, fun d => ?pass, fun w d hw hd => ?other_domains,
    fun w hw => ?cancelled, fun hw => ?no_walk, ?frame⟩
  case orphaned => exact (huncarried x hx).trans (by rw [hc]; rfl)
  case others => exact (huncarried x hx).trans (orphan_of_not_active hc)
  all_goals rw [hshape]
  case phase => rfl
  case staging => exact abandonedBatch_idle hopen
  case lock => rfl
  case abort => exact abandonedBatch_abort s.batch
  case abandoned => exact abandonedBatch_result_committing hs
  case no_commit => exact congrArg BatchUnit.result (abandonedBatch_of_not_committing hs)
  case walk => exact hwalk
  case pass => exact hpass d
  case other_domains =>
    rw [cancelWalk_of_walking hw]
    exact reopen_domainRecord_other hd s
  case cancelled =>
    rw [cancelWalk_of_walking hw]
    refine ⟨rfl, rfl, fun d hd => ?_⟩
    rw [hd]
    exact reopen_domainRecord_closing d s
  case no_walk =>
    rw [cancelWalk_of_idle hw]
    exact ⟨rfl, rfl, rfl⟩
  case frame =>
    rw [hshape] at hentry
    exact ⟨rfl, hentry, rfl, rfl, rfl, rfl, rfl, hnothing, hcaptured, rfl, rfl, hlive, hdefaults, rfl, rfl, rfl,
      hfirst, hnext, hoverride, halert⟩

end Sys2Proof.Machine
end

section
/-! SUPPORT. The discard of a pending slot, and the end of a drain (05 R93, R96, 07 R132). -/

namespace Sys2Proof.Machine

/-! ### A discard deadline (05 R93) -/

/-- DISCARD is recorded, then the DISCARD fault (05 R93). -/
def State.chargeDiscard (r : ReqId) (k : SlotIx) (s : State) : State := (s.report (.discard r k)).fault r .discard

theorem exec_discardDeadlineExpiry {k : SlotIx} {q : Request} {i : EntryIx} {a : Response} {d : Time} {s : State}
    (hk : s.queue[k] = .ready q i a d) (hd : d ≤ s.now) :
    exec (.discardDeadlineExpiry k) s = .next (settle s ((s.dropSlot k).chargeDiscard q.requester k)) := by
  show execDiscardDeadlineExpiry k s = _
  unfold execDiscardDeadlineExpiry
  rw [hk]
  exact if_pos hd

/-- Without a claim to free, a discard touches no entry and no drain item, so it brings about no retake. -/
theorem settle_chargeDiscard_putSlot (r : ReqId) (k : SlotIx) (x : Slot) (s : State) :
    settle s ((s.putSlot k x).chargeDiscard r k) = (s.putSlot k x).chargeDiscard r k := by
  unfold State.chargeDiscard
  refine settle_of_same (by rw [State.fault_drain]; exact Nat.le_refl _) fun _ _ => State.entry_congr ?_ _
  rw [State.fault_store]
  rfl

/-- Settles O19: the slot is emptied alone, or with the claim it carries. -/
theorem slotDiscarded : Obligations.SlotDiscarded := by
  intro k q i a d s hk hd emptied charged
  have htag : slotTag s.queue[k] = a.tag := by
    rw [hk]
    rfl
  rw [exec_discardDeadlineExpiry hk hd]
  refine ⟨fun hnone => ?_, fun t ht => ?_⟩
  · rw [dropSlot_of_bare (htag.trans hnone), settle_chargeDiscard_putSlot]
    rfl
  · rw [dropSlot_of_carrying (htag.trans ht)]
    rfl

/-! ### The end of a drain (07 R132, R133) -/

theorem endDrain_frame (i : EntryIx) (s : State) : s.endDrain i = { s with
    claims := (s.endDrain i).claims, queue := (s.endDrain i).queue, drain := removeDrain i s.drain
    store := { s.store with entries := (s.endDrain i).store.entries } } := rfl

theorem endDrain_entry_self {s : State} (h : Canonical s) (i : EntryIx) :
    (s.endDrain i).entry i = ⟨.vacant, 0, (s.entry i).generation + 1#16, false⟩ :=
  State.entry_putEntry_self h i _

theorem endDrain_entry_ne (s : State) {i j : EntryIx} (h : j ≠ i) : (s.endDrain i).entry j = s.entry j :=
  State.entry_putEntry_ne s _ h

theorem isSome_carrier {s : State} {t : Tag} {k : SlotIx} (hk : slotTag s.queue[k] = some t) :
    (s.carrier t).isSome = true :=
  Option.isSome_iff_ne_none.2 fun hnone => beq_eq_false_iff_ne.1 (find_finRange_none.1 hnone k) hk

theorem endDrain_claim_carried {s : State} {i : EntryIx} {t : Tag} {k : SlotIx} (hk : slotTag s.queue[k] = some t)
    (ht : namesEntry i s.claims[t] = true) : (s.endDrain i).claims[t] = .free := by
  rw [endDrain_claim, if_pos ht, if_pos (isSome_carrier hk)]

theorem endDrain_claim_uncarried {s : State} {i : EntryIx} {t : Tag} (ht : namesEntry i s.claims[t] = true)
    (huncarried : ∀ k : SlotIx, slotTag s.queue[k] ≠ some t) : (s.endDrain i).claims[t] = orphan s.claims[t] := by
  rw [endDrain_claim, if_pos ht, carrier_eq_none huncarried]
  rfl

theorem endDrain_claim_other {s : State} {i : EntryIx} {t : Tag} (ht : namesEntry i s.claims[t] = false) :
    (s.endDrain i).claims[t] = s.claims[t] := by
  rw [endDrain_claim, if_neg (Bool.eq_false_iff.1 ht)]

theorem endDrain_slot_carrying {s : State} {i : EntryIx} {t : Tag} {k : SlotIx} (hk : slotTag s.queue[k] = some t)
    (ht : namesEntry i s.claims[t] = true) : (s.endDrain i).queue[k] = .empty := by
  rw [endDrain_slot, if_pos ⟨t, hk, ht⟩]

theorem endDrain_slot_other {s : State} {i : EntryIx} {k : SlotIx}
    (hk : ∀ t, slotTag s.queue[k] = some t → namesEntry i s.claims[t] = false) :
    (s.endDrain i).queue[k] = s.queue[k] := by
  rw [endDrain_slot, if_neg]
  rintro ⟨t, htag, ht⟩
  rw [hk t htag] at ht
  contradiction

/-- The records orphaned are the ACTIVE ones on the entry that no slot carries (04 R77). -/
theorem orphanedBy_eq (s : State) (i : EntryIx) (t : Tag) :
    s.orphanedBy i t = (activeOn i s.claims[t] && (s.carrier t).isNone) := by
  unfold State.orphanedBy State.carriedOn activeOn
  cases hc : s.claims[t] with
  | free => rfl
  | orphaned c => rfl
  | active c =>
    show (c.entry == i && !((s.carrier t).isSome && c.entry == i)) = (c.entry == i && (s.carrier t).isNone)
    cases c.entry == i <;> cases s.carrier t <;> rfl

theorem orphanCount_eq (s : State) (i : EntryIx) :
    s.orphanCount i = (List.finRange 64).countP (fun t => activeOn i s.claims[t] && (s.carrier t).isNone) :=
  List.countP_congr fun t _ => by rw [orphanedBy_eq]

theorem exec_drainExpiry {p : Fin 16} {i : EntryIx} {d : Time} {s : State} (hp : s.drain[p.val]? = some ⟨i, some d⟩)
    (hd : d ≤ s.now) :
    exec (.drainExpiry p) s = .next (settle s ((s.endDrain i).report (.drainExpired i (s.orphanCount i)))) := by
  show execDrainExpiry p s = _
  unfold execDrainExpiry
  rw [hp]
  exact if_pos (isDue_of_le rfl hd)

/-- Settles O20: table, claims and slots by their lemmas, and the expiry with the count of the records orphaned. -/
theorem drainsEnd : Obligations.DrainsEnd := by
  intro i s u
  have hnames {t : Tag} {c : Claim} (hc : claimOf s.claims[t] = some c) (hi : c.entry = i) :
      namesEntry i s.claims[t] = true := by
    unfold namesEntry
    rw [hc]
    exact beq_iff_eq.2 hi
  refine ⟨endDrain_frame i s, fun h => endDrain_entry_self h i, fun j hj => endDrain_entry_ne s hj,
    fun k t hk ht => ⟨endDrain_slot_carrying hk ht, endDrain_claim_carried hk ht⟩, fun t c hc hi huncarried => ?active,
    fun t ht => endDrain_claim_other ht, fun t c hc hi huncarried => ?orphaned, fun k hk => ?bare, fun k t hk ht => ?other,
    fun p d hp hd => ?expiry⟩
  case active =>
    rw [endDrain_claim_uncarried (hnames (by rw [hc]; rfl) hi) huncarried, hc]
    rfl
  case orphaned =>
    rw [endDrain_claim_uncarried (hnames (by rw [hc]; rfl) hi) huncarried, hc]
    rfl
  case bare =>
    refine endDrain_slot_other fun t ht => ?_
    rw [hk] at ht
    contradiction
  case other =>
    refine endDrain_slot_other fun x hx => ?_
    obtain rfl : t = x := Option.some.inj (hk.symm.trans hx)
    exact ht
  case expiry =>
    intro orphaned
    rw [exec_drainExpiry hp hd, orphanCount_eq]
    rfl

end Sys2Proof.Machine
end

section
/-! SUPPORT. The lock law, the operations that leave the lock and add nothing to the pending slots, and those that take or
give up the lock (05 R84 to R90, 06 R110, R121). -/

namespace Sys2Proof.Machine

/-! ### The law (05 R84, 06 R110) -/

/-- The group whose batch is COMMITTING. -/
def commitGroup (x : Staging) : Option Group :=
  match x with
  | .committing g _ _ _ _ _ => some g
  | _ => none

theorem commitGroup_eq_some_iff {x : Staging} {g : Group} :
    commitGroup x = some g ↔ ∃ n ops copies k t, x = .committing g n ops copies k t := by
  cases x <;> simp [commitGroup]

theorem commitGroup_of_not_committing {x : Staging} (h : ¬ committing x = true) : commitGroup x = none := by
  cases x with
  | committing g n ops copies k t => exact absurd rfl h
  | idle => rfl
  | loading g n ops => rfl
  | loaded g n ops => rfl

/-- No two occupied slots hold the same request (05 R84). -/
def RequestsDistinct (s : State) : Prop :=
  ∀ (j k : SlotIx) q, slotRequest s.queue[j] = some q → slotRequest s.queue[k] = some q → j = k

/-- The lock mark is the group being committed. -/
theorem lockLaw_iff (s : State) : LockLaw s ↔ s.store.lockMark = commitGroup s.batch.staging
    ∧ (∀ (k : SlotIx) q i, s.queue[k] = .waiting q i → s.store.lockMark = some (groupOf i)) ∧ RequestsDistinct s := by
  refine and_congr ?_ Iff.rfl
  rw [Option.ext_iff]
  exact forall_congr' fun g => iff_congr Iff.rfl commitGroup_eq_some_iff.symm

theorem requestsDistinct_of_lockLaw {s : State} (h : LockLaw s) : RequestsDistinct s := by
  obtain ⟨_, _, hdistinct⟩ := h
  exact hdistinct

/-- With no slot WAITING the lock alone matters. -/
theorem lockLaw_of_none_waiting {s : State} (hlock : s.store.lockMark = commitGroup s.batch.staging)
    (hwaiting : ∀ k : SlotIx, isWaiting s.queue[k] = false) (hdistinct : RequestsDistinct s) : LockLaw s := by
  refine (lockLaw_iff s).2 ⟨hlock, fun k q i hk => ?_, hdistinct⟩
  have hnot := hwaiting k
  rw [hk] at hnot
  contradiction

theorem lockLaw_of_empty {s : State} (hlock : s.store.lockMark = none) (hgroup : commitGroup s.batch.staging = none)
    (hslots : ∀ k : SlotIx, s.queue[k] = .empty) : LockLaw s := by
  refine lockLaw_of_none_waiting (hlock.trans hgroup.symm) (fun k => by rw [hslots]; rfl) fun j k q hj => ?_
  rw [hslots] at hj
  contradiction

/-! ### Operations that ease the queue -/

/-- The slot stands, or is no longer WAITING and holds no request it did not hold. -/
def SlotEased (x y : Slot) : Prop := y = x ∨ isWaiting y = false ∧ ∀ q, slotRequest y = some q → slotRequest x = some q

theorem SlotEased.request {x y : Slot} (h : SlotEased x y) {q : Request} (hq : slotRequest y = some q) :
    slotRequest x = some q := by
  rcases h with rfl | ⟨_, hrequest⟩
  · exact hq
  · exact hrequest q hq

theorem SlotEased.waiting {x : Slot} {q : Request} {i : EntryIx} (h : SlotEased x (.waiting q i)) : x = .waiting q i := by
  rcases h with h | ⟨hnot, _⟩
  · exact h.symm
  · contradiction

theorem SlotEased.trans {x y z : Slot} (hxy : SlotEased x y) (hyz : SlotEased y z) : SlotEased x z := by
  rcases hyz with rfl | ⟨hwaiting, hrequest⟩
  · exact hxy
  · exact .inr ⟨hwaiting, fun q hq => hxy.request (hrequest q hq)⟩

theorem slotEased_of_emptied {x y : Slot} (h : y = x ∨ y = .empty) : SlotEased x y := by
  rcases h with rfl | rfl
  · exact .inl rfl
  · exact .inr ⟨rfl, fun q hq => by contradiction⟩

/-- The lock and the group being committed stand, and every slot is eased. -/
structure Eases (s t : State) : Prop where
  lock : t.store.lockMark = s.store.lockMark
  group : commitGroup t.batch.staging = commitGroup s.batch.staging
  slots : ∀ k : SlotIx, SlotEased s.queue[k] t.queue[k]

theorem Eases.refl (s : State) : Eases s s := ⟨rfl, rfl, fun _ => .inl rfl⟩

theorem Eases.trans {s t u : State} (hst : Eases s t) (htu : Eases t u) : Eases s u where
  lock := htu.lock.trans hst.lock
  group := htu.group.trans hst.group
  slots k := (hst.slots k).trans (htu.slots k)

theorem requestsDistinct_of_eased {s t : State} (hs : RequestsDistinct s)
    (h : ∀ k : SlotIx, SlotEased s.queue[k] t.queue[k]) : RequestsDistinct t :=
  fun j k q hj hk => hs j k q ((h j).request hj) ((h k).request hk)

/-- What eases the queue keeps the law. -/
theorem LockLaw.eased {s t : State} (hs : LockLaw s) (h : Eases s t) : LockLaw t := by
  obtain ⟨hlock, hwaiting, hdistinct⟩ := (lockLaw_iff s).1 hs
  refine (lockLaw_iff t).2 ⟨h.lock.trans (hlock.trans h.group.symm), fun k q i hk => ?_,
    requestsDistinct_of_eased hdistinct h.slots⟩
  have hwas := h.slots k
  rw [hk] at hwas
  exact h.lock.trans (hwaiting k q i hwas.waiting)

/-- An operation on other fields, the table's entries among them. -/
theorem eases_of_frame {s t : State} (hlock : t.store.lockMark = s.store.lockMark) (hbatch : t.batch = s.batch)
    (hqueue : t.queue = s.queue) : Eases s t :=
  ⟨hlock, by rw [hbatch], fun _ => .inl (by rw [hqueue])⟩

theorem eases_elsewhere {s t : State} (hstore : t.store = s.store) (hbatch : t.batch = s.batch)
    (hqueue : t.queue = s.queue) : Eases s t :=
  eases_of_frame (by rw [hstore]) hbatch hqueue

/-- The Staging Buffer changes, with no commit before or after. -/
theorem eases_restaged {s t : State} (hs : commitGroup s.batch.staging = none) (ht : commitGroup t.batch.staging = none)
    (hstore : t.store = s.store) (hqueue : t.queue = s.queue) : Eases s t :=
  ⟨by rw [hstore], ht.trans hs.symm, fun _ => .inl (by rw [hqueue])⟩

/-- The Staging Buffer changes within a commit. -/
theorem eases_putStaging_committing {s : State} {g : Group} {n k : Nat} {ops : List BatchOp} {copies : List ValidatedCopy}
    {t : Tally} (h : commitGroup s.batch.staging = some g) : Eases s (s.putStaging (.committing g n ops copies k t)) :=
  ⟨rfl, h.symm, fun _ => .inl rfl⟩

/-- One slot is eased. -/
theorem eases_putSlot {s : State} {k : SlotIx} {x : Slot} (h : SlotEased s.queue[k] x) : Eases s (s.putSlot k x) := by
  refine ⟨rfl, rfl, fun j => ?_⟩
  by_cases hj : j = k
  · have hself : (s.putSlot k x).queue[j] = x := hj ▸ set_get_self s.queue k x
    rw [hself, hj]
    exact h
  · exact .inl (set_get_ne _ _ hj)

theorem eases_putSlot_empty (k : SlotIx) (s : State) : Eases s (s.putSlot k .empty) :=
  eases_putSlot (slotEased_of_emptied (.inr rfl))

/-! ### Entries, claims and slots (01, 04, 05) -/

theorem eases_readEntry (f : Finder) (i : EntryIx) (s : State) : Eases s (s.readEntry f i) := by
  refine eases_of_frame ?_ (State.readEntry_batch f i s) (State.readEntry_queue f i s)
  unfold State.readEntry
  split
  · rfl
  · rfl

theorem eases_lowerCount (i : EntryIx) (s : State) : Eases s (s.lowerCount i) := by
  refine eases_of_frame ?_ (State.lowerCount_batch i s) (State.lowerCount_queue i s)
  unfold State.lowerCount
  dsimp only
  split
  · rfl
  · rfl

theorem eases_freeClaim (t : Tag) (s : State) : Eases s (s.freeClaim t) := by
  have hput : Eases s (s.putClaim t .free) := eases_elsewhere rfl rfl rfl
  unfold State.freeClaim
  split
  · exact .refl s
  · exact hput
  · exact hput.trans (eases_lowerCount _ _)

theorem eases_grantClaim (q : Request) (i : EntryIx) (t : Tag) (s : State) : Eases s (s.grantClaim q i t) :=
  eases_of_frame rfl rfl rfl

theorem eases_dropSlot (k : SlotIx) (s : State) : Eases s (s.dropSlot k) := by
  have hput := eases_putSlot_empty k s
  unfold State.dropSlot
  split
  · exact hput.trans (eases_freeClaim _ _)
  · exact hput

theorem eases_putRequester (r : ReqId) (q : Requester) (s : State) : Eases s (s.putRequester r q) :=
  eases_elsewhere rfl rfl rfl

theorem eases_acceptClearing (r : ReqId) (x : Clearing) (s : State) : Eases s (s.acceptClearing r x) := by
  rw [acceptClearing_eq]
  refine State.foldl_keeps (p := Eases s) (fun u k hu => ?_) _ (eases_putRequester _ _ s)
  by_cases hk : Owns r u k
  · rw [dropIfOwned_of_owns hk]
    exact hu.trans (eases_dropSlot k u)
  · rw [dropIfOwned_of_not_owns hk]
    exact hu

theorem eases_endDrain (i : EntryIx) (s : State) : Eases s (s.endDrain i) := by
  refine ⟨rfl, rfl, fun k => slotEased_of_emptied ?_⟩
  rw [endDrain_slot]
  split
  · exact .inr rfl
  · exact .inl rfl

/-! ### Errors, faults and responses (02 R29, 03 R42, 10) -/

theorem eases_report (e : ErrorRecord) (s : State) : Eases s (s.report e) := eases_elsewhere rfl rfl rfl

theorem eases_raise (k : EventKind) (s : State) : Eases s (s.raise k) := eases_elsewhere rfl rfl rfl

theorem eases_fault (r : ReqId) (k : FaultKind) (s : State) : Eases s (s.fault r k) :=
  eases_elsewhere (State.fault_store r k s) (State.fault_batch r k s) (State.fault_queue r k s)

theorem eases_deliver (r : ReqId) (a : Response) (s : State) : Eases s (s.deliver r a) :=
  eases_elsewhere (State.deliver_store r a s) (State.deliver_batch r a s) (State.deliver_queue r a s)

/-! ### The Sweep Engine and the end of an event (09 R152 to R161) -/

theorem eases_endWalk (w : Walk) (x : WalkEnd) (s : State) : Eases s (s.endWalk w x) :=
  eases_elsewhere (State.endWalk_store w x s) (State.endWalk_batch w x s) (State.endWalk_queue w x s)

theorem eases_advance (w : Walk) (n : Nat) (s : State) : Eases s (s.advance w n) :=
  eases_elsewhere (State.advance_store w n s) (State.advance_batch w n s) (State.advance_queue w n s)

theorem eases_lackItem (w : Walk) (s : State) : Eases s (s.lackItem w) := by
  obtain ⟨_, _, _, h⟩ := State.lackItem_shape w s
  exact eases_elsewhere (by rw [h]) (by rw [h]) (by rw [h])

theorem eases_updateReport (f : SweepReport → SweepReport) (s : State) : Eases s (s.updateReport f) :=
  eases_elsewhere rfl rfl rfl

theorem eases_addDrain (i : EntryIx) (s : State) : Eases s (s.addDrain i) := eases_elsewhere rfl rfl rfl

/-- A sweep's write empties READY slots on its entry (05 R95). -/
theorem eases_sweepWrite (i : EntryIx) (c : Contents) (s : State) : Eases s (s.sweepWrite i c) :=
  ⟨rfl, rfl, fun k => slotEased_of_emptied (emptyStale_slot i s.queue k)⟩

theorem eases_sweepTake (w : Walk) (d : Domain) (s : State) : Eases s (s.sweepTake w d) := by
  have hread := eases_readEntry .sweep w.cursor s
  have hwrite (c : Contents) : Eases s ((s.readEntry .sweep w.cursor).sweepWrite w.cursor c) :=
    hread.trans (eases_sweepWrite _ _ _)
  unfold State.sweepTake
  dsimp only
  split
  case h_1 => exact (hread.trans (eases_updateReport _ _)).trans (eases_advance _ _ _)
  case h_2 => exact hread.trans (eases_advance _ _ _)
  case h_3 =>
    split
    · exact ((hwrite _).trans (eases_updateReport _ _)).trans (eases_advance _ _ _)
    · exact hread.trans (eases_advance _ _ _)
  case h_4 =>
    split
    · split
      · exact ((hwrite _).trans (eases_updateReport _ _)).trans (eases_advance _ _ _)
      · split
        · exact ((hwrite _).trans (eases_updateReport _ _)).trans (eases_advance _ _ _)
        · split
          · exact (((hwrite _).trans (eases_addDrain _ _)).trans (eases_updateReport _ _)).trans (eases_advance _ _ _)
          · exact hread.trans (eases_lackItem _ _)
    · exact hread.trans (eases_advance _ _ _)

theorem eases_sweepStepOf (w : Walk) (d : Domain) (s : State) : Eases s (s.sweepStepOf w d) := by
  unfold State.sweepStepOf
  split
  · exact (eases_updateReport _ s).trans (eases_advance _ _ _)
  · exact eases_sweepTake w d s

theorem eases_scrubStepOf (w : Walk) (s : State) : Eases s (s.scrubStepOf w) := by
  have hread := eases_readEntry .scrub w.cursor s
  unfold State.scrubStepOf
  dsimp only
  split
  · exact (hread.trans (eases_updateReport _ _)).trans (eases_advance _ _ _)
  · exact hread.trans (eases_advance _ _ _)

theorem eases_retake (s : State) : Eases s s.retake := by
  unfold State.retake
  split
  · split
    · exact eases_sweepTake _ _ s
    · exact .refl s
  · exact .refl s

/-- The end of an event adds at most a retake. -/
theorem eases_settle (s t : State) : Eases t (settle s t) := by
  rcases settle_cases s t with hsame | hretake
  · rw [hsame]
    exact .refl t
  · rw [hretake]
    exact eases_retake t

/-! ### The evaluation of a request (03 R54 to R60, 05 R89, R90) -/

theorem eases_entryTests (q : Request) (i : EntryIx) (s : State) : Eases s (s.entryTests q i).1 := by
  have hread := eases_readEntry .resolve i s
  rcases entryTests_cases q i s with ⟨hstate, _⟩ | ⟨t, _, hstate, _, _⟩
  · rwa [hstate]
  · rw [hstate]
    exact hread.trans (eases_grantClaim q i t _)

theorem eases_evaluate (q : Request) (i : EntryIx) (s : State) : Eases s (s.evaluate q i).1 := by
  unfold State.evaluate
  split
  · exact .refl s
  · exact eases_entryTests q i s

/-- A WAITING slot that takes its result holds no other request. -/
theorem slotEased_slotAfter (q : Request) (i : EntryIx) (a : Response) (d : Time) :
    SlotEased (.waiting q i) (slotAfter q i a d) := by
  refine .inr ⟨isWaiting_slotAfter q i a d, fun p hp => ?_⟩
  unfold slotAfter at hp
  split at hp
  · contradiction
  · exact hp

theorem eases_evaluateSlot (k : SlotIx) (s : State) : Eases s (s.evaluateSlot k) := by
  cases hw : isWaiting s.queue[k] with
  | false =>
    rw [evaluateSlot_of_not_waiting hw]
    exact .refl s
  | true =>
    obtain ⟨q, i, hk⟩ := eq_waiting_of_isWaiting hw
    have hqueue := State.evaluate_queue q i s
    rw [evaluateSlot_of_waiting hk, ← hqueue]
    refine (eases_evaluate q i s).trans (eases_putSlot ?_)
    rw [hqueue, hk]
    exact slotEased_slotAfter q i _ _

theorem eases_evaluateWaiting (s : State) : Eases s s.evaluateWaiting := by
  unfold State.evaluateWaiting
  exact State.foldl_keeps (p := Eases s) (fun u k hu => hu.trans (eases_evaluateSlot k u)) _ (.refl s)

theorem evaluateWaiting_slot (s : State) (k : SlotIx) : isWaiting s.evaluateWaiting.queue[k] = false :=
  foldl_evaluateSlot_of_mem (List.mem_finRange k) s

/-! ### A commit ends and begins (06 R110, R121, 05 R87) -/

/-- With the lock given up no slot is left WAITING (05 R89). -/
theorem lockLaw_endCommit {s : State} (hs : RequestsDistinct s) (r : CommitResult) :
    LockLaw (State.evaluateWaiting (s.closeCommit r)) := by
  have h := eases_evaluateWaiting (s.closeCommit r)
  exact lockLaw_of_none_waiting (h.lock.trans h.group.symm) (evaluateWaiting_slot _)
    (requestsDistinct_of_eased (s := s) hs h.slots)

theorem lockLaw_rejectCommit {s : State} (hs : LockLaw s) (g : Group) (n p : Nat) (i : EntryIx) (x : RejectReason) :
    LockLaw (s.rejectCommit g n p i x) :=
  lockLaw_endCommit (s := s.report _) (requestsDistinct_of_lockLaw hs) _

theorem slotRequest_demote (g : Group) (x : Slot) : slotRequest (demote g x) = slotRequest x := by
  cases x with
  | empty => rfl
  | waiting q i => rfl
  | ready q i a d =>
    unfold demote
    dsimp only
    split
    · rfl
    · rfl

theorem demote_eq_waiting {g : Group} {x : Slot} {q : Request} {i : EntryIx} (h : demote g x = .waiting q i) :
    x = .waiting q i ∨ groupOf i = g := by
  cases x with
  | empty => contradiction
  | waiting p j => exact .inl h
  | ready p j a d =>
    unfold demote at h
    dsimp only at h
    split at h
    · rename_i hgroup
      cases h
      exact .inr hgroup.1
    · contradiction

/-- Before the acceptance no slot is WAITING, since no group is locked; after it the demoted ones lie in the group. -/
theorem lockLaw_acceptCommit {s : State} (hs : LockLaw s) (hidle : commitGroup s.batch.staging = none) (g : Group) (n : Nat)
    (ops : List BatchOp) : LockLaw (s.acceptCommit g n ops) := by
  obtain ⟨hlock, hwaiting, hdistinct⟩ := (lockLaw_iff s).1 hs
  have hslot (k : SlotIx) : (s.acceptCommit g n ops).queue[k] = demote g s.queue[k] := by
    simp [State.acceptCommit]
  refine (lockLaw_iff _).2 ⟨rfl, fun k q i hk => ?_, fun j k q hj hk => ?_⟩
  · rw [hslot] at hk
    rcases demote_eq_waiting hk with hwas | hgroup
    · have hlocked := hwaiting k q i hwas
      rw [hlock, hidle] at hlocked
      contradiction
    · exact congrArg some hgroup.symm
  · rw [hslot, slotRequest_demote] at hj hk
    exact hdistinct j k q hj hk

end Sys2Proof.Machine
end

section
/-! SUPPORT. The Resolve Port and the load of the image keep the lock law (03 R52, R53, 04 R71, 05 R85, 12 R183 to R189). -/

namespace Sys2Proof.Machine

/-! ### RESOLVE (03 R52, R53, 05 R85) -/

/-- A new request waits in the locked group. -/
theorem lockLaw_putSlot_waiting {s : State} (hs : LockLaw s) (k : SlotIx) {q : Request} {i : EntryIx}
    (hlocked : s.store.lockMark = some (groupOf i)) (hnew : ∀ j : SlotIx, slotRequest s.queue[j] ≠ some q) :
    LockLaw (s.putSlot k (.waiting q i)) := by
  obtain ⟨hlock, hwaiting, hdistinct⟩ := (lockLaw_iff s).1 hs
  have hself : (s.putSlot k (.waiting q i)).queue[k] = .waiting q i := set_get_self _ _ _
  have hother {j : SlotIx} (hj : j ≠ k) : (s.putSlot k (.waiting q i)).queue[j] = s.queue[j] := set_get_ne _ _ hj
  have hholds {j : SlotIx} {p : Request} (hp : slotRequest (s.putSlot k (.waiting q i)).queue[j] = some p) :
      j = k ↔ p = q := by
    by_cases hj : j = k
    · rw [hj, hself] at hp
      exact iff_of_true hj (Option.some.inj hp).symm
    · rw [hother hj] at hp
      exact iff_of_false hj fun hpq => hnew j (hpq ▸ hp)
  refine (lockLaw_iff _).2 ⟨hlock, fun j p m hj => ?_, fun j l p hj hl => ?_⟩
  · by_cases hjk : j = k
    · rw [hjk, hself] at hj
      cases hj
      exact hlocked
    · rw [hother hjk] at hj
      exact hwaiting j p m hj
  · by_cases hpq : p = q
    · exact ((hholds hj).2 hpq).trans ((hholds hl).2 hpq).symm
    · rw [hother fun hjk => hpq ((hholds hj).1 hjk)] at hj
      rw [hother fun hlk => hpq ((hholds hl).1 hlk)] at hl
      exact hdistinct j l p hj hl

/-- A request that neither a READY nor a WAITING slot holds is held by none. -/
theorem slotRequest_ne_of_not_held {s : State} {q : Request} (hready : s.slotHolding isReady q = none)
    (hwaiting : s.slotHolding isWaiting q = none) (j : SlotIx) : slotRequest s.queue[j] ≠ some q := by
  intro hj
  cases hslot : s.queue[j] with
  | empty =>
    rw [hslot] at hj
    contradiction
  | waiting p i => exact slotHolding_eq_none_iff.1 hwaiting ⟨j, by rw [hslot]; rfl, hj⟩
  | ready p i a d => exact slotHolding_eq_none_iff.1 hready ⟨j, by rw [hslot]; rfl, hj⟩

theorem lockLaw_storeRequest {s : State} (hs : LockLaw s) {q : Request} {i : EntryIx}
    (hlocked : s.store.lockMark = some (groupOf i)) (hready : s.slotHolding isReady q = none) :
    LockLaw (s.storeRequest q i).1 := by
  unfold State.storeRequest
  split
  · exact hs
  · rename_i hwaiting
    split
    · exact lockLaw_putSlot_waiting hs _ hlocked (slotRequest_ne_of_not_held hready hwaiting)
    · exact hs

theorem lockLaw_resolveInside {s : State} (hs : LockLaw s) (q : Request) : LockLaw (s.resolveInside q).1 := by
  have htests := hs.eased (eases_entryTests q (s.pageOf q.address) s)
  unfold State.resolveInside
  split
  · split
    · exact hs.eased (eases_putSlot_empty _ s)
    · exact htests
  · rename_i hready
    split
    · rename_i hlocked
      exact lockLaw_storeRequest hs hlocked hready
    · exact htests

theorem lockLaw_resolveRequest {s : State} (hs : LockLaw s) (q : Request) : LockLaw (s.resolveRequest q).1 := by
  unfold State.resolveRequest
  split
  · exact hs
  · split
    · exact hs
    · split
      · exact lockLaw_resolveInside hs q
      · exact hs

/-! ### RELEASE and SLOT_RESET (04 R71 to R75, 03 R63) -/

theorem eases_releaseRequest (r : ReqId) (t : Tag) (s : State) : Eases s (s.releaseRequest r t).1 := by
  unfold State.releaseRequest
  split
  · exact .refl s
  · split
    · exact eases_freeClaim t s
    · exact .refl s
  · split
    · split
      · exact (eases_putSlot_empty _ s).trans (eases_freeClaim t _)
      · exact eases_freeClaim t s
    · exact .refl s

theorem eases_slotResetRequest (r : ReqId) (s : State) : Eases s (s.slotResetRequest r) := by
  have hport {u : State} (h : Eases s u) : Eases s { u with port := .holding r } :=
    h.trans (eases_elsewhere rfl rfl rfl)
  by_cases hclearing : (s.requester r).clearing = none
  · rw [slotResetRequest_accepts hclearing]
    exact hport (eases_acceptClearing r .toDefaults s)
  · rw [slotResetRequest_joins hclearing]
    exact hport (eases_putRequester r _ s)

/-! ### The load of the image leaves the lock mark (12 R183 to R189) -/

theorem takePreload_lockMark (a b c : ImageWord) (r : PreloadRun) :
    (takePreload a b c r).state.store.lockMark = r.state.store.lockMark := by
  unfold takePreload
  split
  · split
    · rfl
    · rfl
  · rfl

theorem preloadRecords_lockMark (l : List ImageWord) (r : PreloadRun) :
    (preloadRecords l r).state.store.lockMark = r.state.store.lockMark := by
  fun_induction preloadRecords l r with
  | case1 a b c rest r ih => exact ih.trans (takePreload_lockMark a b c r)
  | case2 => rfl
  | case3 => rfl

theorem loadPreloadRest_lockMark (l : List ImageWord) (m : List Nat) (n : Nat) (s : State) :
    (s.loadPreloadRest l m n).store.lockMark = s.store.lockMark := by
  obtain ⟨_, _, h⟩ := State.endPreload_shape (preloadRecords l ⟨s, m, n⟩).skipped (preloadRecords l ⟨s, m, n⟩).state
  have hrest : (s.loadPreloadRest l m n).store = (preloadRecords l ⟨s, m, n⟩).state.store := by
    unfold State.loadPreloadRest
    rw [h]
  rw [hrest]
  exact preloadRecords_lockMark l ⟨s, m, n⟩

theorem loadPreloadPiece_lockMark (l : List ImageWord) (m : List Nat) (n : Nat) (s : State) :
    (s.loadPreloadPiece l m n).store.lockMark = s.store.lockMark := by
  unfold State.loadPreloadPiece
  split
  · exact takePreload_lockMark _ _ _ ⟨s, m, n⟩
  · exact loadPreloadRest_lockMark l m n s

theorem applyControl_lockMark (c : ControlValues) (s : State) : (s.applyControl c).store.lockMark = s.store.lockMark := by
  rw [applyControl_eq]
  obtain ⟨_, _, h⟩ := State.reportSkipped_shape .control c.skipped (fun f => { f with controlSkipped := true })
    (s.setControl c)
  rw [h]
  rfl

theorem loadControl_lockMark (s : State) : s.loadControl.store.lockMark = s.store.lockMark := by
  unfold State.loadControl
  split
  · exact applyControl_lockMark _ s
  · exact applyControl_lockMark _ s
  · exact applyControl_lockMark _ s

/-- A piece of the load leaves the queue and the Staging Buffer too. -/
theorem eases_of_loads {s t : State} (h : Loads s t) (hlock : t.store.lockMark = s.store.lockMark) : Eases s t :=
  eases_of_frame hlock h.batch h.queue

theorem eases_loadCheck (s : State) : Eases s s.loadCheck := by
  obtain ⟨_, _, h⟩ := State.loadCheck_shape s
  exact eases_of_loads (loads_loadCheck s) (by rw [h])

theorem eases_loadControl (s : State) : Eases s s.loadControl :=
  eases_of_loads (loads_loadControl s) (loadControl_lockMark s)

theorem eases_loadRequesters (s : State) : Eases s s.loadRequesters := by
  obtain ⟨_, _, _, h⟩ := State.loadRequesters_shape s
  exact eases_of_loads (loads_loadRequesters s) (by rw [h])

theorem eases_loadPreloadStart (s : State) : Eases s s.loadPreloadStart := by
  obtain ⟨_, h⟩ := State.loadPreloadStart_shape s
  exact eases_of_loads (loads_loadPreloadStart s) (by rw [h])

theorem eases_loadFreeze (s : State) : Eases s s.loadFreeze := by
  obtain ⟨_, _, _, h⟩ := State.loadFreeze_shape s
  exact eases_of_loads (loads_loadFreeze s) (by rw [h])

theorem eases_loadFromPreload (s : State) : Eases s s.loadFromPreload := by
  refine eases_of_loads (loads_loadFromPreload s) ?_
  unfold State.loadFromPreload
  split
  · exact loadPreloadRest_lockMark _ _ _ s
  · rfl

theorem eases_loadPiece (s : State) : Eases s s.loadPiece := by
  unfold State.loadPiece
  split
  · exact eases_loadCheck s
  · exact eases_loadControl s
  · exact eases_loadRequesters s
  · exact eases_loadPreloadStart s
  · exact eases_of_loads (loads_loadPreloadPiece _ _ _ s) (loadPreloadPiece_lockMark _ _ _ s)
  · exact eases_loadFreeze s
  · exact .refl s
  · exact .refl s

theorem eases_loadRest (s : State) : Eases s s.loadRest := by
  have stage {c : Prop} [Decidable c] {u v w : State} (hu : Eases u v) (hv : Eases v w) :
      Eases u (if c then w else v) := by
    split
    · exact hu.trans hv
    · exact hu
  have hcheck : Eases s s.loadFromCheck := stage (.refl s) (eases_loadCheck s)
  have hcontrol : Eases s s.loadFromCheck.loadFromControl := stage hcheck (eases_loadControl _)
  have hrequesters : Eases s s.loadFromCheck.loadFromControl.loadFromRequesters :=
    stage hcontrol (eases_loadRequesters _)
  have hstart : Eases s s.loadFromCheck.loadFromControl.loadFromRequesters.loadFromPreloadStart :=
    stage hrequesters (eases_loadPreloadStart _)
  exact stage (hstart.trans (eases_loadFromPreload _)) (eases_loadFreeze _)

theorem eases_enterRunning (s : State) : Eases s s.enterRunning :=
  eases_elsewhere (State.enterRunning_store s) (State.enterRunning_batch s) (State.enterRunning_queue s)

theorem eases_tick (s : State) : Eases s s.tick := by
  have hload : Eases s s.loadTick := by
    have hfree : Eases s { s with free := s.free + 1 } := eases_elsewhere rfl rfl rfl
    unfold State.loadTick
    dsimp only
    split
    · split
      · exact hfree.trans (eases_loadPiece _)
      · exact hfree
    · exact .refl s
  exact hload.trans (eases_elsewhere rfl rfl rfl)

end Sys2Proof.Machine
end

section
/-! SUPPORT. The host commands keep the lock law (06 R103 to R110, 11 R181, 12 R187, R188). -/

namespace Sys2Proof.Machine

/-! ### The batch commands (06 R103 to R110) -/

theorem commitGroup_of_open {x : Staging} (h : openBatch x = true) : commitGroup x = none := by
  cases x with
  | committing g n ops copies k t => contradiction
  | idle => rfl
  | loading g n ops => rfl
  | loaded g n ops => rfl

theorem eases_abortBatch {s : State} (h : commitGroup s.batch.staging = none) (x : AbortReason) :
    Eases s (s.abortBatch x) :=
  eases_restaged h rfl rfl rfl

theorem eases_interrupt (s : State) : Eases s s.interrupt := by
  unfold State.interrupt
  split
  · rename_i hopen
    exact eases_abortBatch (commitGroup_of_open hopen) _
  · exact .refl s

theorem eases_openTests (s : State) : Eases s s.openTests.1 := by
  unfold State.openTests
  split
  · exact .refl s
  · rename_i hidle
    have hnone := commitGroup_of_not_committing hidle
    split
    · exact .refl s
    · dsimp only
      split
      · exact .refl s
      · split
        · exact eases_abortBatch hnone _
        · exact eases_restaged hnone rfl rfl rfl

theorem commitGroup_appendOp (g : Group) (n : Nat) (ops : List BatchOp) (op : BatchOp) :
    commitGroup (appendOp g n ops op) = none := by
  unfold appendOp
  split
  · rfl
  · rfl

theorem eases_loadTests (s : State) : Eases s s.loadTests.1 := by
  unfold State.loadTests
  split
  · exact .refl s
  · exact .refl s
  · rename_i hs
    exact eases_abortBatch (by rw [hs]; rfl) _
  · rename_i hs
    have hnone : commitGroup s.batch.staging = none := by
      rw [hs]
      rfl
    split
    · exact .refl s
    · split
      · exact eases_abortBatch hnone _
      · split
        · exact eases_abortBatch hnone _
        · exact eases_restaged hnone (commitGroup_appendOp _ _ _ _) rfl rfl

theorem eases_discardTests (s : State) : Eases s s.discardTests.1 := by
  unfold State.discardTests
  split
  · exact .refl s
  · rename_i hidle
    exact eases_restaged (commitGroup_of_not_committing hidle) rfl rfl rfl

theorem lockLaw_commitTests {s : State} (hs : LockLaw s) : LockLaw s.commitTests.1 := by
  unfold State.commitTests
  split
  · exact hs
  · rename_i hloading
    exact hs.eased (eases_abortBatch (by rw [hloading]; rfl) _)
  · exact hs
  · rename_i hloaded
    have hnone : commitGroup s.batch.staging = none := by
      rw [hloaded]
      rfl
    split
    · exact hs.eased (eases_restaged hnone rfl rfl rfl)
    · split
      · exact hs
      · exact lockLaw_acceptCommit hs hnone _ _ _

/-! ### The freeze and walk commands (08 R141 to R144, 09 R150 to R160) -/

section Others

variable (s : State)

theorem eases_freezeGroupTests : Eases s s.freezeGroupTests.1 := by
  unfold State.freezeGroupTests
  split
  · exact .refl s
  · split
    · exact .refl s
    · exact eases_elsewhere rfl rfl rfl

theorem eases_thawGroupTests : Eases s s.thawGroupTests.1 := by
  unfold State.thawGroupTests
  split
  · exact .refl s
  · split
    · exact .refl s
    · exact eases_elsewhere rfl rfl rfl

theorem eases_freezeAllTests : Eases s s.freezeAllTests.1 := by
  unfold State.freezeAllTests
  split
  · exact .refl s
  · exact eases_elsewhere rfl rfl rfl

theorem eases_freezeRangeTests : Eases s s.freezeRangeTests.1 := by
  unfold State.freezeRangeTests
  split
  · exact .refl s
  · split
    · exact .refl s
    · exact eases_elsewhere rfl rfl rfl

theorem eases_startWalk (k : WalkKind) : Eases s (s.startWalk k).1 := by
  unfold State.startWalk
  split
  · exact .refl s
  · cases k with
    | domainSweep d => exact eases_elsewhere rfl rfl rfl
    | scrub => exact eases_elsewhere rfl rfl rfl

theorem eases_domainSweepTests : Eases s s.domainSweepTests.1 := by
  unfold State.domainSweepTests
  split
  · exact .refl s
  · exact eases_startWalk s _

theorem eases_walkIn (x : WalkState) (w : Walk) : Eases s (s.walkIn x w) := eases_elsewhere rfl rfl rfl

theorem eases_suspendTests : Eases s s.suspendTests.1 := by
  unfold State.suspendTests
  split
  · exact .refl s
  · split
    · exact eases_walkIn s _ _
    · exact eases_walkIn s _ _
    · exact .refl s
    · exact .refl s

theorem eases_resumeTests : Eases s s.resumeTests.1 := by
  unfold State.resumeTests
  split
  · exact .refl s
  · split
    · exact .refl s
    · split
      · exact .refl s
      · exact eases_walkIn s _ _

theorem eases_cancelTests : Eases s s.cancelTests.1 := by
  have hend (w : Walk) : Eases s (s.endWalk w .cancelled) := eases_endWalk w .cancelled s
  unfold State.cancelTests
  split
  · exact .refl s
  · split
    · exact eases_walkIn s _ _
    · exact hend _
    · exact hend _
    · exact hend _

/-! ### FORCE_DRAIN, the requester commands and READ_ENTRY (07 R133, 02 R26, R34, R36, 11 R182) -/

theorem eases_forceDrainTests : Eases s s.forceDrainTests.1 := by
  unfold State.forceDrainTests
  split
  · exact .refl s
  · split
    · exact ((eases_endDrain _ s).trans (eases_raise _ _)).trans (eases_settle s _)
    · exact .refl s

theorem eases_domainSetTests : Eases s s.domainSetTests.1 := by
  unfold State.domainSetTests
  split
  · exact .refl s
  · split
    · exact .refl s
    · exact eases_elsewhere rfl rfl rfl

theorem eases_requesterSetTests : Eases s s.requesterSetTests.1 := by
  unfold State.requesterSetTests
  split
  · exact .refl s
  · rename_i o _
    split
    · exact .refl s
    · cases o.standing with
      | disabled =>
        dsimp only
        exact (eases_acceptClearing o.requester (.toDisabled o.domain o.limit) s).trans (eases_settle s _)
      | enabled => exact eases_putRequester _ _ s
      | quarantined => exact eases_putRequester _ _ s

theorem eases_requesterResetTests : Eases s s.requesterResetTests.1 := by
  unfold State.requesterResetTests
  split
  · exact .refl s
  · rename_i r _
    split
    · exact .refl s
    · dsimp only
      exact (eases_acceptClearing r .toDefaults s).trans (eases_settle s _)

theorem eases_clearErrorsTests : Eases s s.clearErrorsTests.1 := eases_elsewhere rfl rfl rfl

theorem eases_readEntryAnswer {s u : State} {bytes : List Byte} (h : s.readEntryAnswer = some (u, bytes)) :
    Eases s u := by
  unfold State.readEntryAnswer at h
  split at h
  · contradiction
  · cases h
    exact (eases_readEntry _ _ s).trans (eases_settle s _)

end Others

/-! ### The resets (12 R187, R188) -/

theorem lockLaw_fullReset (r : CommitResult) (x : Transaction) (s : State) : LockLaw (s.fullReset r x) :=
  lockLaw_of_empty rfl rfl (fullReset_slot r x s)

theorem commitGroup_abandonedBatch (b : BatchUnit) : commitGroup (abandonedBatch b).staging = none := by
  cases hb : b.staging with
  | committing g n ops copies k t =>
    unfold abandonedBatch
    rw [hb]
    rfl
  | idle | loading | loaded =>
    rw [abandonedBatch_of_not_committing (by rw [hb]; rfl), hb]
    rfl

theorem lockLaw_acceptTableReset (s : State) : LockLaw s.acceptTableReset := by
  refine lockLaw_of_empty ?_ ?_ (acceptTableReset_slot s)
  · rw [acceptTableReset_eq]
    rfl
  · rw [acceptTableReset_batch]
    exact commitGroup_abandonedBatch s.batch

/-! ### The gates of the commands (06 R107, 11 R181, R182) -/

/-- The effect of a command keeps the lock law. -/
def KeepsLock (f : State → State) : Prop := ∀ s, LockLaw s → LockLaw (f s)

theorem eases_setStatus (e : CommandEnd) (s : State) : Eases s (s.setStatus e) := eases_elsewhere rfl rfl rfl

theorem eases_byteTaken (s : State) : Eases s s.byteTaken := eases_elsewhere rfl rfl rfl

theorem keepsLock_interrupting {body : State → State × CommandEnd} (hbody : ∀ s, LockLaw s → LockLaw (body s).1) :
    KeepsLock (State.interrupting body) := by
  intro s hs
  unfold State.interrupting
  split
  · exact hs.eased (eases_setStatus _ s)
  · exact (hbody _ (hs.eased (eases_interrupt s))).eased (eases_setStatus _ _)

/-- A command past its gate whose body eases the queue. -/
theorem keepsLock_interrupting_eased {body : State → State × CommandEnd} (hbody : ∀ s, Eases s (body s).1) :
    KeepsLock (State.interrupting body) :=
  keepsLock_interrupting fun s hs => hs.eased (hbody s)

theorem keepsLock_batchCommand {body : State → State × CommandEnd} (hbody : ∀ s, LockLaw s → LockLaw (body s).1) :
    KeepsLock (State.batchCommand body) := by
  intro s hs
  unfold State.batchCommand
  split
  · exact hs.eased (eases_setStatus _ s)
  · exact (hbody s hs).eased (eases_setStatus _ _)

theorem keepsLock_query {answer : State → Option (State × List Byte)}
    (hanswer : ∀ {s u : State} {bytes : List Byte}, answer s = some (u, bytes) → Eases s u) :
    KeepsLock (State.query answer) := by
  intro s hs
  unfold State.query
  split
  · rename_i u bytes hu
    refine (hs.eased (hanswer hu)).eased (Eases.trans (t := { u with mgmt := { u.mgmt with results := _ } }) ?_
      (eases_setStatus .done _))
    exact eases_elsewhere rfl rfl rfl
  · exact hs.eased (eases_setStatus _ s)

/-- A query that only looks. -/
theorem keepsLock_query_map {α : Type} (index : State → Option α) (bytes : State → α → List Byte) :
    KeepsLock (State.query (fun s => (index s).map (fun k => (s, bytes s k)))) := by
  refine keepsLock_query fun {s u _} h => ?_
  obtain ⟨k, _, hk⟩ := Option.map_eq_some_iff.1 h
  cases hk
  exact .refl s

theorem keepsLock_query_some (bytes : State → List Byte) : KeepsLock (State.query (fun s => some (s, bytes s))) := by
  refine keepsLock_query fun {s u _} h => ?_
  cases h
  exact .refl s

/-! ### The command table (11 R181) -/

theorem keepsLock_batchOpen : KeepsLock State.batchOpen := keepsLock_interrupting_eased eases_openTests

theorem keepsLock_batchLoad : KeepsLock State.batchLoad := keepsLock_batchCommand fun s hs => hs.eased (eases_loadTests s)

theorem keepsLock_batchCommit : KeepsLock State.batchCommit := keepsLock_batchCommand fun _ => lockLaw_commitTests

theorem keepsLock_batchDiscard : KeepsLock State.batchDiscard :=
  keepsLock_batchCommand fun s hs => hs.eased (eases_discardTests s)

theorem keepsLock_freezeGroup : KeepsLock State.freezeGroup := keepsLock_interrupting_eased eases_freezeGroupTests

theorem keepsLock_thawGroup : KeepsLock State.thawGroup := keepsLock_interrupting_eased eases_thawGroupTests

theorem keepsLock_freezeAll : KeepsLock State.freezeAll := keepsLock_interrupting_eased eases_freezeAllTests

theorem keepsLock_freezeRange : KeepsLock State.freezeRange := keepsLock_interrupting_eased eases_freezeRangeTests

theorem keepsLock_domainSweep : KeepsLock State.domainSweep := keepsLock_interrupting_eased eases_domainSweepTests

theorem keepsLock_scrub : KeepsLock State.scrub := keepsLock_interrupting_eased fun s => eases_startWalk s .scrub

theorem keepsLock_sweepSuspend : KeepsLock State.sweepSuspend := keepsLock_interrupting_eased eases_suspendTests

theorem keepsLock_sweepResume : KeepsLock State.sweepResume := keepsLock_interrupting_eased eases_resumeTests

theorem keepsLock_sweepCancel : KeepsLock State.sweepCancel := keepsLock_interrupting_eased eases_cancelTests

theorem keepsLock_forceDrain : KeepsLock State.forceDrain := keepsLock_interrupting_eased eases_forceDrainTests

theorem keepsLock_domainSet : KeepsLock State.domainSet := keepsLock_interrupting_eased eases_domainSetTests

theorem keepsLock_requesterSet : KeepsLock State.requesterSet := keepsLock_interrupting_eased eases_requesterSetTests

theorem keepsLock_requesterReset : KeepsLock State.requesterReset :=
  keepsLock_interrupting_eased eases_requesterResetTests

theorem keepsLock_clearErrors : KeepsLock State.clearErrors := keepsLock_interrupting_eased eases_clearErrorsTests

theorem keepsLock_tableReset : KeepsLock State.tableReset :=
  keepsLock_interrupting fun s _ => lockLaw_acceptTableReset s

theorem keepsLock_readEntryQuery : KeepsLock State.readEntryQuery := keepsLock_query eases_readEntryAnswer

theorem keepsLock_readClaimQuery : KeepsLock State.readClaimQuery := keepsLock_query_map _ _

theorem keepsLock_readPendingQuery : KeepsLock State.readPendingQuery := keepsLock_query_map _ _

theorem keepsLock_readDrainQuery : KeepsLock State.readDrainQuery := keepsLock_query_map _ _

theorem keepsLock_readRequesterQuery : KeepsLock State.readRequesterQuery := keepsLock_query_map _ _

theorem keepsLock_readSweepResultQuery : KeepsLock State.readSweepResultQuery := keepsLock_query_some _

theorem keepsLock_readCommitResultQuery : KeepsLock State.readCommitResultQuery := keepsLock_query_some _

theorem keepsLock_undefinedCommand : KeepsLock State.undefinedCommand := fun s hs => hs.eased (eases_setStatus _ s)

/-- A choice between an effect that keeps the law and others. -/
theorem keepsLock_mem_ite {c : Prop} [Decidable c] {f : State → State} {rest : Option (State → State)}
    (hf : KeepsLock f) (hrest : ∀ g ∈ rest, KeepsLock g) : ∀ g ∈ if c then some f else rest, KeepsLock g := by
  split
  · rintro g ⟨⟩
    exact hf
  · exact hrest

theorem keepsLock_lowCommand (code : Byte) : ∀ f ∈ lowCommand code, KeepsLock f := by
  unfold lowCommand
  exact keepsLock_mem_ite keepsLock_batchOpen <| keepsLock_mem_ite keepsLock_batchLoad <|
    keepsLock_mem_ite keepsLock_batchCommit <| keepsLock_mem_ite keepsLock_batchDiscard <|
    keepsLock_mem_ite keepsLock_freezeGroup <| keepsLock_mem_ite keepsLock_thawGroup <|
    keepsLock_mem_ite keepsLock_freezeAll <| keepsLock_mem_ite keepsLock_freezeRange <|
    keepsLock_mem_ite keepsLock_domainSweep <| keepsLock_mem_ite keepsLock_scrub <|
    keepsLock_mem_ite keepsLock_sweepSuspend <| keepsLock_mem_ite keepsLock_sweepResume <|
    keepsLock_mem_ite keepsLock_sweepCancel <| by simp

theorem keepsLock_highCommand (code : Byte) : ∀ f ∈ highCommand code, KeepsLock f := by
  unfold highCommand
  exact keepsLock_mem_ite keepsLock_forceDrain <| keepsLock_mem_ite keepsLock_domainSet <|
    keepsLock_mem_ite keepsLock_requesterSet <| keepsLock_mem_ite keepsLock_requesterReset <|
    keepsLock_mem_ite keepsLock_clearErrors <| keepsLock_mem_ite keepsLock_tableReset <|
    keepsLock_mem_ite keepsLock_readEntryQuery <| keepsLock_mem_ite keepsLock_readClaimQuery <|
    keepsLock_mem_ite keepsLock_readPendingQuery <| keepsLock_mem_ite keepsLock_readDrainQuery <|
    keepsLock_mem_ite keepsLock_readRequesterQuery <| keepsLock_mem_ite keepsLock_readSweepResultQuery <|
    keepsLock_mem_ite keepsLock_readCommitResultQuery <| by simp

theorem keepsLock_dispatch (code : Byte) : KeepsLock (State.dispatch code) := by
  intro s hs
  unfold State.dispatch
  split
  · exact lockLaw_fullReset _ _ _
  · refine LockLaw.eased ?_ (eases_byteTaken _)
    cases hlow : lowCommand code with
    | some f => exact keepsLock_lowCommand code f hlow s hs
    | none =>
      cases hhigh : highCommand code with
      | some f => exact keepsLock_highCommand code f hhigh s hs
      | none => exact keepsLock_undefinedCommand s hs

end Sys2Proof.Machine
end

section
/-! SUPPORT. Every row of the command table, and so every step, keeps the lock law (05 R84, 06 R110). -/

namespace Sys2Proof.Machine

/-! ### Writes of entries, settings and bytes (06 R117, 11 R178, R180) -/

theorem eases_applyOp (op : BatchOp) (c : ValidatedCopy) (s : State) : Eases s (s.applyOp op c).1 := by
  refine eases_of_frame ?_ (State.applyOp_batch op c s) (State.applyOp_queue op c s)
  cases op with
  | install i p bad => rfl
  | amend i a x m bad =>
    unfold State.applyOp
    dsimp only [opEntry]
    split
    · rfl
    · rfl
  | revoke i =>
    unfold State.applyOp State.applyRevoke
    dsimp only [opEntry]
    split
    · rfl
    · split
      · rfl
      · rfl

theorem eases_writeSetting (f : Settings → Settings) (s : State) : Eases s (s.writeSetting f) := by
  unfold State.writeSetting
  split
  · exact eases_elsewhere rfl rfl rfl
  · exact eases_elsewhere rfl rfl rfl

theorem eases_writeAlert (v : Byte) (s : State) : Eases s (s.writeAlert v) := eases_elsewhere rfl rfl rfl

theorem eases_storeByte (a : Nat) (v : Byte) (s : State) : Eases s (s.storeByte a v) := by
  unfold State.storeByte
  split
  · exact eases_writeAlert v s
  · split
    · exact eases_writeSetting _ s
    · split
      · exact eases_writeSetting _ s
      · split
        · exact eases_writeSetting _ s
        · split
          · exact eases_elsewhere rfl rfl rfl
          · exact .refl s

/-- The byte of a write is taken. -/
theorem Eases.byteTaken {s t : State} (h : Eases s t) : Eases s t.byteTaken := h.trans (eases_byteTaken t)

/-! ### Outcomes -/

/-- A next state, if the outcome is one, obeys the lock law. -/
def EndsLocked (o : Host.Outcome State Fault Refusal) : Prop := ∀ t, o = .next t → LockLaw t

theorem endsLocked_next {s : State} (h : LockLaw s) : EndsLocked (.next s) := by
  rintro t ⟨⟩
  exact h

theorem endsLocked_ite {c : Prop} [Decidable c] {a b : Host.Outcome State Fault Refusal} (ha : EndsLocked a)
    (hb : EndsLocked b) : EndsLocked (if c then a else b) := by
  split
  · exact ha
  · exact hb

section Rows

variable {s : State} (hs : LockLaw s)

include hs

theorem endsLocked_eased {t : State} (h : Eases s t) : EndsLocked (.next t) := endsLocked_next (hs.eased h)

/-- A row that eases the queue where its event arises, and does nothing elsewhere (log 1). -/
theorem endsLocked_ite_eased {c : Prop} [Decidable c] {t : State} (h : Eases s t) :
    EndsLocked (if c then .next t else .next s) :=
  endsLocked_ite (endsLocked_eased hs h) (endsLocked_next hs)

theorem endsLocked_atCommandRegister {f : State → State} (hf : KeepsLock f) : EndsLocked (atCommandRegister f s) :=
  endsLocked_ite (endsLocked_next ((hf s hs).eased (eases_byteTaken _))) (endsLocked_next hs)

/-! ### The Resolve Port (03, 04 R71) -/

theorem endsLocked_execResolve (r : ReqId) (a : Address) (d : Dir) (c : Bool) : EndsLocked (execResolve r a d c s) :=
  endsLocked_ite
    (endsLocked_eased (lockLaw_resolveRequest hs _) ((eases_deliver _ _ _).trans (eases_settle s _)))
    (endsLocked_next hs)

theorem endsLocked_execRelease (r : ReqId) (t : Tag) : EndsLocked (execRelease r t s) :=
  endsLocked_ite
    (endsLocked_ite (endsLocked_eased hs (eases_deliver _ _ _))
      (endsLocked_eased hs (((eases_releaseRequest r t s).trans (eases_deliver _ _ _)).trans (eases_settle s _))))
    (endsLocked_next hs)

theorem endsLocked_execSlotReset (r : ReqId) : EndsLocked (execSlotReset r s) :=
  endsLocked_ite
    (endsLocked_ite (endsLocked_eased hs (eases_deliver _ _ _))
      (endsLocked_eased hs ((eases_slotResetRequest r s).trans (eases_settle s _))))
    (endsLocked_next hs)

theorem endsLocked_execRspTaken : EndsLocked (execRspTaken s) := by
  unfold execRspTaken
  split
  · exact endsLocked_eased hs (eases_elsewhere rfl rfl rfl)
  · exact endsLocked_next hs
  · exact endsLocked_next hs

/-! ### Clearings and deadlines (02 R32, R38, R39, 05 R93, 07 R132) -/

theorem endsLocked_execRequesterClearingFree (r : ReqId) : EndsLocked (execRequesterClearingFree r s) := by
  refine endsLocked_ite ?_ (endsLocked_next hs)
  split
  · exact endsLocked_eased hs ((eases_freeClaim _ s).trans (eases_settle s _))
  · exact endsLocked_next hs

theorem endsLocked_execRequesterClearingCompletion (r : ReqId) :
    EndsLocked (execRequesterClearingCompletion r s) := by
  unfold execRequesterClearingCompletion
  split
  · exact endsLocked_eased hs (eases_elsewhere rfl rfl rfl)
  · exact endsLocked_next hs

theorem endsLocked_execDiscardDeadlineExpiry (k : SlotIx) : EndsLocked (execDiscardDeadlineExpiry k s) := by
  unfold execDiscardDeadlineExpiry
  split
  · exact endsLocked_ite_eased hs
      ((((eases_dropSlot k s).trans (eases_report _ _)).trans (eases_fault _ _ _)).trans (eases_settle s _))
  · exact endsLocked_next hs
  · exact endsLocked_next hs

theorem endsLocked_execDrainExpiry (p : Fin 16) : EndsLocked (execDrainExpiry p s) := by
  unfold execDrainExpiry
  split
  · exact endsLocked_ite_eased hs (((eases_endDrain _ s).trans (eases_report _ _)).trans (eases_settle s _))
  · exact endsLocked_next hs

/-! ### The commit (06 R112 to R121) -/

theorem endsLocked_execCommitValidation : EndsLocked (execCommitValidation s) := by
  unfold execCommitValidation
  split
  · rename_i g n ops copies k t hstaging
    split
    · rename_i op _
      have hread := eases_readEntry .commit (opEntry op) s
      dsimp only
      split
      · exact endsLocked_eased (lockLaw_rejectCommit (hs.eased hread) _ _ _ _ _) (eases_settle s _)
      · have hgroup : commitGroup (s.readEntry .commit (opEntry op)).batch.staging = some g := by
          rw [State.readEntry_batch, hstaging]
          rfl
        exact endsLocked_eased hs (.trans (hread.trans (eases_putStaging_committing hgroup)) (eases_settle s _))
    · exact endsLocked_next hs
  · exact endsLocked_next hs

theorem endsLocked_execCommitApplication : EndsLocked (execCommitApplication s) := by
  unfold execCommitApplication
  split
  · rename_i g n ops copies k t hstaging
    refine endsLocked_ite ?_ (endsLocked_next hs)
    split
    · rename_i op c _ _
      have happly := eases_applyOp op c s
      have hgroup : commitGroup (s.applyOp op c).1.batch.staging = some g := by
        rw [State.applyOp_batch, hstaging]
        rfl
      exact endsLocked_eased hs (happly.trans (eases_putStaging_committing hgroup))
    · exact endsLocked_next hs
  · exact endsLocked_next hs

theorem endsLocked_execCommitCompletion : EndsLocked (execCommitCompletion s) := by
  unfold execCommitCompletion
  split
  · exact endsLocked_ite
      (endsLocked_eased (lockLaw_endCommit (requestsDistinct_of_lockLaw hs) _) (eases_settle s _)) (endsLocked_next hs)
  · exact endsLocked_next hs

/-! ### Walks (09 R153 to R156) -/

theorem endsLocked_execSweepStep : EndsLocked (execSweepStep s) := by
  unfold execSweepStep
  split
  · exact endsLocked_next hs
  · split
    · exact endsLocked_ite_eased hs (eases_sweepStepOf _ _ s)
    · exact endsLocked_next hs

theorem endsLocked_execScrubStep : EndsLocked (execScrubStep s) := by
  unfold execScrubStep
  split
  · exact endsLocked_next hs
  · split
    · exact endsLocked_ite_eased hs (eases_scrubStepOf _ s)
    · exact endsLocked_next hs

theorem endsLocked_execSweepRetake : EndsLocked (execSweepRetake s) := by
  unfold execSweepRetake
  split
  · exact endsLocked_ite_eased hs (eases_retake s)
  · exact endsLocked_next hs

/-! ### Resets and the register window (11, 12 R187) -/

theorem endsLocked_execResetAssert : EndsLocked (execResetAssert s) :=
  endsLocked_ite (endsLocked_next hs) (endsLocked_next (lockLaw_fullReset _ _ _))

theorem endsLocked_execFullReset : EndsLocked (execFullReset s) :=
  endsLocked_ite (endsLocked_next (lockLaw_fullReset _ _ _)) (endsLocked_next hs)

theorem lockLaw_writeNext (v : Byte) : LockLaw (s.writeNext v) := by
  unfold State.writeNext
  split
  · exact keepsLock_dispatch v s hs
  · exact hs.eased (eases_storeByte _ v s).byteTaken

/-! ### Every row (95) -/

theorem endsLocked_exec (c : Instr) : EndsLocked (exec c s) := by
  cases c with
  | resolve r a d c => exact endsLocked_execResolve hs r a d c
  | release r t => exact endsLocked_execRelease hs r t
  | slotReset r => exact endsLocked_execSlotReset hs r
  | malformedRequest k => exact endsLocked_ite_eased hs (eases_elsewhere rfl rfl rfl)
  | rspTaken => exact endsLocked_execRspTaken hs
  | requesterClearingFree r => exact endsLocked_execRequesterClearingFree hs r
  | requesterClearingCompletion r => exact endsLocked_execRequesterClearingCompletion hs r
  | quarantineDeadlineExpiry r => exact endsLocked_ite_eased hs (eases_elsewhere rfl rfl rfl)
  | discardDeadlineExpiry k => exact endsLocked_execDiscardDeadlineExpiry hs k
  | drainExpiry p => exact endsLocked_execDrainExpiry hs p
  | commitValidation => exact endsLocked_execCommitValidation hs
  | commitApplication => exact endsLocked_execCommitApplication hs
  | commitCompletion => exact endsLocked_execCommitCompletion hs
  | sweepStep => exact endsLocked_execSweepStep hs
  | scrubStep => exact endsLocked_execScrubStep hs
  | sweepRetake => exact endsLocked_execSweepRetake hs
  | imageLoadDone => exact endsLocked_ite_eased hs ((eases_loadRest s).trans (eases_enterRunning _))
  | preloadReloadDone => exact endsLocked_ite_eased hs ((eases_loadFromPreload s).trans (eases_enterRunning _))
  | powerOn b => exact endsLocked_next (lockLaw_fullReset _ _ _)
  | resetAssert => exact endsLocked_execResetAssert hs
  | resetRelease => exact endsLocked_eased hs (eases_elsewhere rfl rfl rfl)
  | batchOpen => exact endsLocked_atCommandRegister hs keepsLock_batchOpen
  | batchLoad => exact endsLocked_atCommandRegister hs keepsLock_batchLoad
  | batchCommit => exact endsLocked_atCommandRegister hs keepsLock_batchCommit
  | batchDiscard => exact endsLocked_atCommandRegister hs keepsLock_batchDiscard
  | freezeGroup => exact endsLocked_atCommandRegister hs keepsLock_freezeGroup
  | thawGroup => exact endsLocked_atCommandRegister hs keepsLock_thawGroup
  | freezeAll => exact endsLocked_atCommandRegister hs keepsLock_freezeAll
  | freezeRange => exact endsLocked_atCommandRegister hs keepsLock_freezeRange
  | domainSweep => exact endsLocked_atCommandRegister hs keepsLock_domainSweep
  | scrub => exact endsLocked_atCommandRegister hs keepsLock_scrub
  | sweepSuspend => exact endsLocked_atCommandRegister hs keepsLock_sweepSuspend
  | sweepResume => exact endsLocked_atCommandRegister hs keepsLock_sweepResume
  | sweepCancel => exact endsLocked_atCommandRegister hs keepsLock_sweepCancel
  | forceDrain => exact endsLocked_atCommandRegister hs keepsLock_forceDrain
  | domainSet => exact endsLocked_atCommandRegister hs keepsLock_domainSet
  | requesterSet => exact endsLocked_atCommandRegister hs keepsLock_requesterSet
  | requesterReset => exact endsLocked_atCommandRegister hs keepsLock_requesterReset
  | clearErrors => exact endsLocked_atCommandRegister hs keepsLock_clearErrors
  | tableReset => exact endsLocked_atCommandRegister hs keepsLock_tableReset
  | readEntry => exact endsLocked_atCommandRegister hs keepsLock_readEntryQuery
  | readClaim => exact endsLocked_atCommandRegister hs keepsLock_readClaimQuery
  | readPending => exact endsLocked_atCommandRegister hs keepsLock_readPendingQuery
  | readDrain => exact endsLocked_atCommandRegister hs keepsLock_readDrainQuery
  | readRequester => exact endsLocked_atCommandRegister hs keepsLock_readRequesterQuery
  | readSweepResult => exact endsLocked_atCommandRegister hs keepsLock_readSweepResultQuery
  | readCommitResult => exact endsLocked_atCommandRegister hs keepsLock_readCommitResultQuery
  | fullReset => exact endsLocked_execFullReset hs
  | undefinedCommandCode c =>
    exact endsLocked_ite (endsLocked_next hs) (endsLocked_atCommandRegister hs keepsLock_undefinedCommand)
  | eventRegisterRead b => exact endsLocked_ite_eased hs (eases_elsewhere rfl rfl rfl)
  | alertAssertedClear v => exact endsLocked_ite_eased hs (eases_writeAlert v s).byteTaken
  | overrideClear v => exact endsLocked_ite_eased hs (eases_writeAlert v s).byteTaken
  | overrideSet v => exact endsLocked_ite_eased hs (eases_writeAlert v s).byteTaken
  | singleByteSettingWrite v => exact endsLocked_ite_eased hs (eases_writeSetting _ s).byteTaken
  | settingLowerByteWrite v => exact endsLocked_ite_eased hs (eases_writeSetting _ s).byteTaken
  | settingHigherByteWrite v => exact endsLocked_ite_eased hs (eases_writeSetting _ s).byteTaken
  | multiByteCaptureRead b => exact endsLocked_ite_eased hs (eases_elsewhere rfl rfl rfl)
  | pointerSet b v => exact endsLocked_ite_eased hs (eases_elsewhere rfl rfl rfl)
  | registerWrite b v => exact endsLocked_ite (endsLocked_next (lockLaw_writeNext hs v)) (endsLocked_next hs)
  | storageDamage i e => exact endsLocked_eased hs (eases_of_frame rfl rfl rfl)
  | transactionEnd x => exact endsLocked_ite_eased hs (eases_elsewhere rfl rfl rfl)

end Rows

/-- Settles O52: every row keeps the law, and so does the time that passes on an empty queue. -/
theorem lockLawHolds : Obligations.LockLawHolds := by
  intro s t hs hstep
  cases hp : s.pending with
  | cons c rest =>
    have hexec : exec c { s with pending := rest } = .next t := by
      rw [← hstep]
      unfold step
      rw [hp]
    exact endsLocked_exec (s := { s with pending := rest }) hs c t hexec
  | nil =>
    cases hdue : s.dueEvent with
    | some c =>
      rw [step_of_expiry hp hdue] at hstep
      exact endsLocked_exec (s := { s with free := s.free + 1 }) hs c t hstep
    | none =>
      rw [step_of_no_expiry hp hdue] at hstep
      exact endsLocked_eased hs (eases_tick s) t hstep

end Sys2Proof.Machine
end

section
/-! SUPPORT. The gate every host command passes: its status, STARTING, the abort of an open batch (06 R107, 11 R181). -/

namespace Sys2Proof.Machine

/-! ### The gate (06 R107, 11 R181) -/

/-- A command that aborts an open batch passes the gate of R107. -/
theorem exec_interruptingCommand : ∀ c ∈ interruptingCommands,
    ∃ body, ∀ s, exec c s = atCommandRegister (State.interrupting body) s := by
  simp only [interruptingCommands, List.forall_mem_cons]
  exact ⟨⟨State.openTests, fun _ => rfl⟩, ⟨State.freezeGroupTests, fun _ => rfl⟩, ⟨State.thawGroupTests, fun _ => rfl⟩,
    ⟨State.freezeAllTests, fun _ => rfl⟩, ⟨State.freezeRangeTests, fun _ => rfl⟩, ⟨State.domainSweepTests, fun _ => rfl⟩,
    ⟨State.startWalk .scrub, fun _ => rfl⟩, ⟨State.suspendTests, fun _ => rfl⟩, ⟨State.resumeTests, fun _ => rfl⟩,
    ⟨State.cancelTests, fun _ => rfl⟩, ⟨State.forceDrainTests, fun _ => rfl⟩, ⟨State.domainSetTests, fun _ => rfl⟩,
    ⟨State.requesterSetTests, fun _ => rfl⟩, ⟨State.requesterResetTests, fun _ => rfl⟩,
    ⟨State.clearErrorsTests, fun _ => rfl⟩, ⟨State.tableResetTests, fun _ => rfl⟩, nofun⟩

/-- A batch command leaves an open batch to its own rule. -/
theorem exec_batchCommand : ∀ c ∈ batchCommands,
    ∃ body, ∀ s, exec c s = atCommandRegister (State.batchCommand body) s := by
  simp only [batchCommands, List.forall_mem_cons]
  exact ⟨⟨State.loadTests, fun _ => rfl⟩, ⟨State.commitTests, fun _ => rfl⟩, ⟨State.discardTests, fun _ => rfl⟩, nofun⟩

section Gate

variable {s : State}

theorem atCommandRegister_of_writes (h : s.writesAt 0x5C#7 = true) (effect : State → State) :
    atCommandRegister effect s = .next (effect s).byteTaken :=
  if_pos h

theorem interrupting_starting (h : s.loader.phase ≠ .running) (body : State → State × CommandEnd) :
    State.interrupting body s = s.setStatus (.refused .starting) :=
  if_pos (starting_eq_true h)

theorem batchCommand_starting (h : s.loader.phase ≠ .running) (body : State → State × CommandEnd) :
    State.batchCommand body s = s.setStatus (.refused .starting) :=
  if_pos (starting_eq_true h)

/-- In RUNNING a command makes its tests after the abort of an open batch. -/
theorem interrupting_running (h : s.loader.phase = .running) (body : State → State × CommandEnd) :
    State.interrupting body s = (body s.interrupt).1.setStatus (body s.interrupt).2 :=
  if_neg (Bool.not_eq_true _ ▸ starting_eq_false h)

theorem batchCommand_running (h : s.loader.phase = .running) (body : State → State × CommandEnd) :
    State.batchCommand body s = (body s).1.setStatus (body s).2 :=
  if_neg (Bool.not_eq_true _ ▸ starting_eq_false h)

/-- A batch command at the command register makes its tests on the state as it stands. -/
theorem atCommandRegister_batchCommand (hc : Commanded s) (body : State → State × CommandEnd) :
    atCommandRegister (State.batchCommand body) s = .next ((body s).1.ended (body s).2) := by
  obtain ⟨hwrite, hrunning⟩ := hc
  rw [atCommandRegister_of_writes hwrite, batchCommand_running hrunning]

theorem interrupt_of_open (h : openBatch s.batch.staging = true) : s.interrupt = s.abortBatch .interrupted := if_pos h

theorem interrupt_of_noOpenBatch (h : NoOpenBatch s) : s.interrupt = s := if_neg (Bool.not_eq_true _ ▸ h)

/-- Once its batch is aborted, a command finds none to abort. -/
theorem interrupting_of_open (hrunning : s.loader.phase = .running) (hopen : openBatch s.batch.staging = true)
    (body : State → State × CommandEnd) :
    State.interrupting body s = State.interrupting body (s.abortBatch .interrupted) := by
  have hnone : NoOpenBatch (s.abortBatch .interrupted) := rfl
  rw [interrupting_running hrunning, interrupting_running (s := s.abortBatch .interrupted) hrunning,
    interrupt_of_open hopen, interrupt_of_noOpenBatch hnone]

end Gate

/-- Settles O36: the status by the shape of the state, the rest by the two gates. -/
theorem commandGate : Obligations.CommandGate := by
  refine fun s => ⟨rfl, rfl, fun _ => rfl, fun c hc hwrite hphase => ?starting, fun c hc hcommanded hopen => ?interrupts⟩
  case starting =>
    rcases List.mem_append.1 hc with hc | hc
    · obtain ⟨body, hexec⟩ := exec_interruptingCommand c hc
      rw [hexec, atCommandRegister_of_writes hwrite, interrupting_starting hphase]
    · obtain ⟨body, hexec⟩ := exec_batchCommand c hc
      rw [hexec, atCommandRegister_of_writes hwrite, batchCommand_starting hphase]
  case interrupts =>
    obtain ⟨hwrite, hrunning⟩ := hcommanded
    obtain ⟨body, hexec⟩ := exec_interruptingCommand c hc
    rw [hexec, hexec, atCommandRegister_of_writes hwrite, interrupting_of_open hrunning hopen]
    exact (atCommandRegister_of_writes (s := s.abortBatch .interrupted) hwrite _).symm

end Sys2Proof.Machine
end

section
/-! SUPPORT. The four batch commands in every state of the Staging Buffer (06 R103 to R110). -/

namespace Sys2Proof.Machine

theorem eq_committing {x : Staging} (h : committing x = true) :
    ∃ g n ops copies k t, x = .committing g n ops copies k t := by
  cases x with
  | committing g n ops copies k t => exact ⟨g, n, ops, copies, k, t, rfl⟩
  | idle => contradiction
  | loading g n ops => contradiction
  | loaded g n ops => contradiction

section Tests

variable {s : State}

/-! ### BATCH_OPEN (06 R103) -/

theorem openTests_busy (h : committing s.batch.staging = true) : s.openTests = (s, .refused .busy) := if_pos h

theorem openTests_refused (h : committing s.batch.staging = false)
    (hrange : 127 < operandByte s 0 ∨ operandByte s 1 = 0 ∨ 64 < operandByte s 1) :
    s.openTests = (s, .refused .badOperand) := by
  unfold State.openTests
  rw [h, if_neg Bool.false_ne_true]
  split
  · rfl
  · rename_i g hg
    have hlt := g.isLt
    have hval := indexBelow_some hg
    exact if_pos (hrange.resolve_left (by omega))

section Group

variable {g : Group} (h : committing s.batch.staging = false) (hg : g.val = operandByte s 0)

include h hg

theorem openTests_in_range (hn : ¬ (operandByte s 1 = 0 ∨ 64 < operandByte s 1)) :
    s.openTests =
      if 32 < operandByte s 1 then (s.abortBatch .count, .done)
      else ({ s with batch := { s.batch with staging := .loading g (operandByte s 1) [], abort := none } }, .done) := by
  unfold State.openTests
  rw [h, if_neg Bool.false_ne_true, indexBelow_of_eq g hg]
  exact if_neg hn

theorem openTests_count (hmore : 32 < operandByte s 1) (hmax : operandByte s 1 ≤ 64) :
    s.openTests = (s.abortBatch .count, .done) := by
  rw [openTests_in_range h hg (by omega), if_pos hmore]

theorem openTests_opened (hpos : 0 < operandByte s 1) (hmax : operandByte s 1 ≤ 32) :
    s.openTests =
      ({ s with batch := { s.batch with staging := .loading g (operandByte s 1) [], abort := none } }, .done) := by
  rw [openTests_in_range h hg (by omega), if_neg (by omega)]

end Group

/-! ### BATCH_LOAD (06 R104) -/

theorem loadTests_idle (h : s.batch.staging = .idle) : s.loadTests = (s, .refused .noBatch) := by
  unfold State.loadTests
  rw [h]

theorem loadTests_busy (h : committing s.batch.staging = true) : s.loadTests = (s, .refused .busy) := by
  obtain ⟨_, _, _, _, _, _, hs⟩ := eq_committing h
  unfold State.loadTests
  rw [hs]

variable {g : Group} {n : Nat} {ops : List BatchOp}

theorem loadTests_overflow (h : s.batch.staging = .loaded g n ops) : s.loadTests = (s.abortBatch .overflow, .done) := by
  unfold State.loadTests
  rw [h]

theorem loadTests_malformed (h : s.batch.staging = .loading g n ops) (hop : operandOp s = none) :
    s.loadTests = (s, .refused .badOperand) := by
  unfold State.loadTests
  rw [h, hop]

/-- The buffer's ops name the entry. -/
theorem any_opEntry_iff (ops : List BatchOp) (i : EntryIx) :
    ops.any (fun x => opEntry x == i) = true ↔ i ∈ ops.map opEntry := by
  simp

section Op

variable {op : BatchOp} (h : s.batch.staging = .loading g n ops) (hop : operandOp s = some op)

include h hop

theorem loadTests_of_op : s.loadTests =
    if groupOf (opEntry op) ≠ g then (s.abortBatch .outside, .done)
    else if ops.any (fun x => opEntry x == opEntry op) then (s.abortBatch .duplicate, .done)
    else (s.putStaging (appendOp g n ops op), .done) := by
  unfold State.loadTests
  rw [h, hop]

theorem loadTests_outside (hgroup : groupOf (opEntry op) ≠ g) : s.loadTests = (s.abortBatch .outside, .done) := by
  rw [loadTests_of_op h hop, if_pos hgroup]

theorem loadTests_duplicate (hgroup : groupOf (opEntry op) = g) (hnamed : opEntry op ∈ ops.map opEntry) :
    s.loadTests = (s.abortBatch .duplicate, .done) := by
  rw [loadTests_of_op h hop, if_neg (not_not_intro hgroup), if_pos ((any_opEntry_iff _ _).2 hnamed)]

theorem loadTests_appended (hgroup : groupOf (opEntry op) = g) (hnew : opEntry op ∉ ops.map opEntry) :
    s.loadTests = (s.putStaging (appendOp g n ops op), .done) := by
  rw [loadTests_of_op h hop, if_neg (not_not_intro hgroup), if_neg (mt (any_opEntry_iff _ _).1 hnew)]

end Op

/-! ### BATCH_DISCARD (06 R105) -/

theorem discardTests_busy (h : committing s.batch.staging = true) : s.discardTests = (s, .refused .busy) := if_pos h

theorem discardTests_done (h : committing s.batch.staging = false) : s.discardTests = (s.putStaging .idle, .done) :=
  if_neg (Bool.not_eq_true _ ▸ h)

/-! ### BATCH_COMMIT (06 R108 to R110) -/

theorem commitTests_idle (h : s.batch.staging = .idle) : s.commitTests = (s, .refused .noBatch) := by
  unfold State.commitTests
  rw [h]

theorem commitTests_busy (h : committing s.batch.staging = true) : s.commitTests = (s, .refused .busy) := by
  obtain ⟨_, _, _, _, _, _, hs⟩ := eq_committing h
  unfold State.commitTests
  rw [hs]

theorem commitTests_short (h : s.batch.staging = .loading g n ops) : s.commitTests = (s.abortBatch .short, .done) := by
  unfold State.commitTests
  rw [h]

/-- The Sweep Engine holds a commit off: a walk that is not SUSPENDED, or one whose cursor lies in the group (06 R109). -/
theorem sweepHolds_iff (s : State) (g : Group) :
    s.sweepHolds g = true ↔ ∃ w, s.sweep.walk = some w ∧ (w.state ≠ .suspended ∨ groupOf w.cursor = g) := by
  unfold State.sweepHolds
  cases hw : s.sweep.walk with
  | none => simp
  | some w =>
    by_cases hs : w.state = .suspended
    · simp [hs]
    · simp [hs]

section Loaded

variable (h : s.batch.staging = .loaded g n ops)

include h

theorem commitTests_of_loaded : s.commitTests =
    if s.freeze.marks.getLsbD g.val then (s.protectCommit g, .done)
    else if s.sweepHolds g then (s, .refused .busy)
    else (s.acceptCommit g n ops, .busyStarted) := by
  unfold State.commitTests
  rw [h]

theorem commitTests_protected (hfrozen : s.freeze.marks.getLsbD g.val = true) :
    s.commitTests = (s.protectCommit g, .done) := by
  rw [commitTests_of_loaded h, if_pos hfrozen]

theorem commitTests_held (hfrozen : ¬ s.freeze.marks.getLsbD g.val = true) (hheld : s.sweepHolds g = true) :
    s.commitTests = (s, .refused .busy) := by
  rw [commitTests_of_loaded h, if_neg hfrozen, if_pos hheld]

theorem commitTests_accepted (hfrozen : ¬ s.freeze.marks.getLsbD g.val = true) (hheld : ¬ s.sweepHolds g = true) :
    s.commitTests = (s.acceptCommit g n ops, .busyStarted) := by
  rw [commitTests_of_loaded h, if_neg hfrozen, if_neg hheld]

end Loaded

theorem acceptCommit_slot (g : Group) (n : Nat) (ops : List BatchOp) (s : State) (k : SlotIx) :
    (s.acceptCommit g n ops).queue[k] = demote g s.queue[k] := by
  simp [State.acceptCommit]

theorem demote_ready {g : Group} {q : Request} {i : EntryIx} {a : Response} {d : Time} (hgroup : groupOf i = g)
    (htag : a.tag = none) : demote g (.ready q i a d) = .waiting q i :=
  if_pos ⟨hgroup, htag⟩

/-- Every other slot stands (05 R87). -/
theorem demote_same {g : Group} {x : Slot} (h : ∀ q i a d, x = .ready q i a d → groupOf i = g → a.tag ≠ none) :
    demote g x = x := by
  cases x with
  | empty => rfl
  | waiting q i => rfl
  | ready q i a d => exact if_neg fun ⟨hgroup, htag⟩ => h q i a d rfl hgroup htag

end Tests

/-- Settles O38: each command passes its gate, and its tests go by the buffer's state. -/
theorem batchesAreLoaded : Obligations.BatchesAreLoaded := by
  refine ⟨fun s hc hb => ?opens, fun s hc => ?loads⟩
  case opens =>
    have hopen : exec .batchOpen s = _ := atCommandRegister_interrupting hc hb State.openTests
    rw [hopen]
    exact ⟨fun h => by rw [openTests_busy h], fun h hrange => by rw [openTests_refused h hrange],
      fun g h hg hmore hmax => by rw [openTests_count h hg hmore hmax]; rfl,
      fun g h hg hpos hmax => by rw [openTests_opened h hg hpos hmax]⟩
  case loads =>
    have hload : exec .batchLoad s = _ := atCommandRegister_batchCommand hc State.loadTests
    have hdiscard : exec .batchDiscard s = _ := atCommandRegister_batchCommand hc State.discardTests
    rw [hload, hdiscard]
    refine ⟨fun h => by rw [loadTests_idle h], fun h => by rw [loadTests_busy h],
      fun g n ops h => by rw [loadTests_overflow h]; rfl,
      fun g n ops h => ⟨fun hop => by rw [loadTests_malformed h hop], fun op hop => ⟨fun hgroup => ?outside,
        fun hgroup hnamed => ?duplicate, fun hgroup hnew hlast => ?last, fun hgroup hnew hmore => ?more⟩⟩,
      fun h => by rw [discardTests_busy h], fun h => by rw [discardTests_done h]; rfl⟩
    case outside => rw [loadTests_outside h hop hgroup]; rfl
    case duplicate => rw [loadTests_duplicate h hop hgroup hnamed]; rfl
    case last => rw [loadTests_appended h hop hgroup hnew, appendOp, if_pos hlast]; rfl
    case more => rw [loadTests_appended h hop hgroup hnew, appendOp, if_neg hmore]; rfl

/-- Settles O39: past the gate the tests go by the buffer's state, and the acceptance demotes slot by slot. -/
theorem batchCommits : Obligations.BatchCommits := by
  intro s hc
  have hcommit : exec .batchCommit s = _ := atCommandRegister_batchCommand hc State.commitTests
  rw [hcommit]
  refine ⟨fun h => by rw [commitTests_idle h], fun h => by rw [commitTests_busy h],
    fun g n ops h => by rw [commitTests_short h]; rfl,
    fun g n ops h => ⟨fun hfrozen => ?frozen, fun hfrozen hheld => ?held, fun hfrozen hheld => ?accepted⟩⟩
  case frozen => rw [commitTests_protected h hfrozen]; rfl
  case held => rw [commitTests_held h hfrozen ((sweepHolds_iff s g).2 hheld)]
  case accepted =>
    have hslot := acceptCommit_slot g n ops s
    rw [commitTests_accepted h hfrozen (mt (sweepHolds_iff s g).1 hheld)]
    refine ⟨_, rfl, rfl, fun k q i a d hk hgroup htag => (hslot k).trans ?_, fun k hk => (hslot k).trans (demote_same hk)⟩
    rw [hk, demote_ready hgroup htag]

end Sys2Proof.Machine
end

section
/-! SUPPORT. How an op is judged against its entry as read, and what a validation does (06 R112 to R116). -/

namespace Sys2Proof.Machine

/-! ### The CLOSING domains (11 R178) -/

theorem bit_getLsbD (x d : Domain) : (1#8 <<< x.val).getLsbD d.val = decide (d = x) := by
  revert x d
  decide

/-- The bits a fold sets are those it began with and those of the indices that have the property. -/
theorem foldl_bits_getLsbD (p : Domain → Bool) (l : List Domain) (m : BitVec 8) (d : Domain) :
    (l.foldl (fun m d => if p d then m ||| (1#8 <<< d.val) else m) m).getLsbD d.val
      = (m.getLsbD d.val || (decide (d ∈ l) && p d)) := by
  induction l generalizing m with
  | nil => simp only [List.foldl_nil, List.not_mem_nil, decide_false, Bool.false_and, Bool.or_false]
  | cons x l ih =>
    rw [List.foldl_cons, ih]
    cases hp : p x with
    | true =>
      rw [if_pos rfl, BitVec.getLsbD_or, bit_getLsbD]
      by_cases hd : d = x
      · simp only [hd, hp, List.mem_cons, true_or, decide_true, Bool.and_true, Bool.or_true, Bool.true_or]
      · simp only [hd, List.mem_cons, false_or, decide_false, Bool.or_false]
    | false =>
      rw [if_neg Bool.false_ne_true]
      by_cases hd : d = x
      · simp only [hd, hp, Bool.and_false]
      · simp only [hd, List.mem_cons, false_or]

theorem closingSet_getLsbD (s : State) (d : Domain) : s.closingSet.getLsbD d.val = (s.domainRecord d).closing := by
  unfold State.closingSet
  rw [foldl_bits_getLsbD]
  simp

/-- A set of domains meets the CLOSING ones. -/
theorem and_closingSet_ne_zero_iff (s : State) (m : BitVec 8) :
    m &&& s.closingSet ≠ 0#8 ↔ ∃ d : Domain, inSet d m = true ∧ (s.domainRecord d).closing = true := by
  have hzero : m &&& s.closingSet = 0#8 ↔ ∀ d : Domain, (m &&& s.closingSet).getLsbD d.val = false := by
    refine ⟨fun h d => by rw [h, BitVec.getLsbD_zero], fun h => BitVec.eq_of_getLsbD_eq fun k hk => ?_⟩
    rw [BitVec.getLsbD_zero]
    exact h ⟨k, hk⟩
  rw [Ne, hzero, not_forall]
  refine exists_congr fun d => ?_
  rw [BitVec.getLsbD_and, closingSet_getLsbD, inSet, Bool.not_eq_false, Bool.and_eq_true]

/-! ### INSTALL (06 R113) -/

section Install

variable {closing : BitVec 8} {e : GrantEntry} {p : Placement}

theorem judgeInstall_occupied {x : Placement} (h : e.contents = .live x ∨ e.contents = .revoking x) :
    judgeInstall closing e p = some .notVacant := by
  unfold judgeInstall
  rcases h with h | h
  · rw [h]
  · rw [h]

theorem judgeInstall_claimed (h : e.contents = .poisoned) (hclaimed : e.claimCount ≠ 0) :
    judgeInstall closing e p = some .claimed := by
  unfold judgeInstall
  rw [h]
  exact if_pos ⟨rfl, Fin.val_ne_zero_iff.2 hclaimed⟩

theorem judgeInstall_placeable (h : e.contents = .vacant ∨ (e.contents = .poisoned ∧ ¬ e.claimCount ≠ 0)) :
    judgeInstall closing e p =
      if p.domains = 0#8 then some .emptySet else if p.domains &&& closing ≠ 0#8 then some .domainClosing else none := by
  unfold judgeInstall
  rcases h with h | ⟨h, hfree⟩
  · rw [h]
    exact if_neg fun ⟨hpoisoned, _⟩ => Contents.noConfusion hpoisoned
  · rw [h]
    exact if_neg fun ⟨_, hclaimed⟩ => hfree (Fin.val_ne_zero_iff.1 hclaimed)

end Install

/-! ### AMEND (06 R114) -/

theorem judgeAmend_of_not_live {closing : BitVec 8} {e : GrantEntry} (h : ∀ p, e.contents ≠ .live p) (a : Option Access)
    (x : Option Snoop) (m : Option (BitVec 8)) : judgeAmend closing e a x m = some .notLive := by
  unfold judgeAmend
  split
  · rename_i p hp
    exact absurd hp (h p)
  · rfl

/-- An AMEND that carries an access other than the entry's changes it. -/
theorem getD_ne_iff {α : Type} {a : Option α} {b : α} : a.getD b ≠ b ↔ ∃ c, a = some c ∧ c ≠ b := by
  cases a with
  | none => simp
  | some c => simp

/-- An AMEND that carries no domain set adds no domain. -/
theorem adds_iff (s : State) (m : Option (BitVec 8)) (own : BitVec 8) :
    m.getD own &&& ~~~own &&& s.closingSet ≠ 0#8 ↔
      ∃ n, m = some n ∧ ∃ d : Domain, inSet d (n &&& ~~~own) = true ∧ (s.domainRecord d).closing = true := by
  cases m with
  | none => simp
  | some n => simp only [Option.getD_some, and_closingSet_ne_zero_iff, Option.some.injEq, exists_eq_left']

section Amend

variable {closing : BitVec 8} {e : GrantEntry} {p : Placement} (h : e.contents = .live p) {a : Option Access}
  {x : Option Snoop} {m : Option (BitVec 8)}

include h

theorem judgeAmend_of_live : judgeAmend closing e a x m =
    if a = none ∧ x = none ∧ m = none then some .noFields
    else if a.getD p.access ≠ p.access ∧ e.claimCount.val ≠ 0 then some .claimed
    else if m = some 0#8 then some .emptySet
    else if m.getD p.domains &&& ~~~p.domains &&& closing ≠ 0#8 then some .domainClosing
    else none := by
  unfold judgeAmend
  rw [h]

theorem judgeAmend_noFields (hnone : a = none ∧ x = none ∧ m = none) :
    judgeAmend closing e a x m = some .noFields := by
  rw [judgeAmend_of_live h, if_pos hnone]

variable (hsome : ¬ (a = none ∧ x = none ∧ m = none))

include hsome

theorem judgeAmend_claimed (hchanges : ∃ b, a = some b ∧ b ≠ p.access) (hclaimed : e.claimCount ≠ 0) :
    judgeAmend closing e a x m = some .claimed := by
  rw [judgeAmend_of_live h, if_neg hsome, if_pos ⟨getD_ne_iff.2 hchanges, Fin.val_ne_zero_iff.2 hclaimed⟩]

theorem judgeAmend_of_allowed (hallowed : ¬ ((∃ b, a = some b ∧ b ≠ p.access) ∧ e.claimCount ≠ 0)) :
    judgeAmend closing e a x m =
      if m = some 0#8 then some .emptySet
      else if m.getD p.domains &&& ~~~p.domains &&& closing ≠ 0#8 then some .domainClosing
      else none := by
  rw [judgeAmend_of_live h, if_neg hsome,
    if_neg fun ⟨hchanges, hclaimed⟩ => hallowed ⟨getD_ne_iff.1 hchanges, Fin.val_ne_zero_iff.1 hclaimed⟩]

end Amend

/-! ### REVOKE (06 R115) -/

section Revoke

variable {free needed : Nat} {e : GrantEntry}

/-- POISONED and LIVE entries can be revoked. -/
theorem not_revocable_iff : e.contents = .vacant ∨ isRevoking e.contents = true ↔
    ¬ (e.contents = .poisoned ∨ ∃ p, e.contents = .live p) := by
  cases e.contents with
  | vacant => simp
  | live p => simp [isRevoking]
  | revoking p => simp [isRevoking]
  | poisoned => simp [isRevoking]

theorem judgeRevoke_notLive (h : ¬ (e.contents = .poisoned ∨ ∃ p, e.contents = .live p)) :
    judgeRevoke free needed e = some .notLive :=
  if_pos (not_revocable_iff.2 h)

theorem judgeRevoke_of_revocable (h : e.contents = .poisoned ∨ ∃ p, e.contents = .live p) :
    judgeRevoke free needed e =
      if e.claimCount.val ≠ 0 ∧ free < needed + 1 then some .drainFull else none :=
  if_neg fun hnot => not_revocable_iff.1 hnot h

end Revoke

/-! ### The judgement (06 R112) -/

section Judge

variable (s : State) (needed : Nat) (i : EntryIx)

theorem judge_install (p : Placement) (bad : Bool) :
    s.judge needed (.install i p bad) = judgeInstall s.closingSet (s.entry i) p := rfl

theorem judge_amend (a : Option Access) (x : Option Snoop) (m : Option (BitVec 8)) (bad : Bool) :
    s.judge needed (.amend i a x m bad) = judgeAmend s.closingSet (s.entry i) a x m := rfl

theorem judge_revoke : s.judge needed (.revoke i) = judgeRevoke s.freeDrains needed (s.entry i) := rfl

end Judge

/-- Settles O23, op by op: each reason by the lemma of its test. -/
theorem opJudging : Obligations.OpJudging := by
  refine fun s needed i => ⟨fun p bad => ?install, fun a x m bad => ?amend, ?revoke⟩
  case install =>
    have hclosing := and_closingSet_ne_zero_iff s p.domains
    rw [judge_install]
    refine ⟨fun ⟨_, h⟩ => judgeInstall_occupied h, judgeInstall_claimed, fun h hempty => ?_, fun h hset hmeets => ?_,
      fun h hset hclear => ?_⟩
    · exact (judgeInstall_placeable h).trans (if_pos hempty)
    · exact ((judgeInstall_placeable h).trans (if_neg hset)).trans (if_pos (hclosing.2 hmeets))
    · exact ((judgeInstall_placeable h).trans (if_neg hset)).trans (if_neg (mt hclosing.1 hclear))
  case amend =>
    rw [judge_amend]
    refine ⟨fun h => judgeAmend_of_not_live h a x m, fun p h => ?_⟩
    have hadds := adds_iff s m p.domains
    refine ⟨judgeAmend_noFields h, judgeAmend_claimed h, fun hsome hallowed hempty => ?_,
      fun hsome hallowed hset hmeets => ?_, fun hsome hallowed hset hclear => ?_⟩
    · exact (judgeAmend_of_allowed h hsome hallowed).trans (if_pos hempty)
    · exact ((judgeAmend_of_allowed h hsome hallowed).trans (if_neg hset)).trans (if_pos (hadds.2 hmeets))
    · exact ((judgeAmend_of_allowed h hsome hallowed).trans (if_neg hset)).trans (if_neg (mt hadds.1 hclear))
  case revoke =>
    have hcount : (s.entry i).claimCount.val ≠ 0 ↔ (s.entry i).claimCount ≠ 0 := Fin.val_ne_zero_iff
    rw [judge_revoke]
    refine ⟨judgeRevoke_notLive, fun h ⟨hclaimed, hfew⟩ => ?_, fun h hshort => ?_⟩
    · exact (judgeRevoke_of_revocable h).trans (if_pos ⟨hcount.2 hclaimed, hfew⟩)
    · exact (judgeRevoke_of_revocable h).trans (if_neg fun ⟨hclaimed, hfew⟩ => hshort ⟨hcount.1 hclaimed, hfew⟩)

/-! ### COMMIT_VALIDATION (06 R112, R116) -/

section Validation

variable {g : Group} {n k : Nat} {ops : List BatchOp} {copies : List ValidatedCopy} {tally : Tally} {op : BatchOp}
  {s : State} (hs : s.batch.staging = .committing g n ops copies k tally) (hop : ops[copies.length]? = some op)

include hs hop

theorem execCommitValidation_passes
    (hjudge : (s.readEntry .commit (opEntry op)).judge (drainsNeeded ops copies) op = none) :
    execCommitValidation s = .next (settle s ((s.readEntry .commit (opEntry op)).putStaging
      (.committing g n ops (copies ++ [⟨((s.readEntry .commit (opEntry op)).entry (opEntry op)).contents,
        ((s.readEntry .commit (opEntry op)).entry (opEntry op)).claimCount⟩]) k tally))) := by
  unfold execCommitValidation
  rw [hs]
  dsimp only
  rw [hop]
  dsimp only
  rw [hjudge]

theorem execCommitValidation_rejects {reason : RejectReason}
    (hjudge : (s.readEntry .commit (opEntry op)).judge (drainsNeeded ops copies) op = some reason) :
    execCommitValidation s = .next (settle s ((s.readEntry .commit (opEntry op)).rejectCommit g ops.length copies.length
      (opEntry op) reason)) := by
  unfold execCommitValidation
  rw [hs]
  dsimp only
  rw [hop]
  dsimp only
  rw [hjudge]

end Validation

/-- The state a rejection leaves to the evaluation of the WAITING slots (06 R116). -/
theorem rejectCommit_eq (g : Group) (n p : Nat) (i : EntryIx) (reason : RejectReason) (s : State) :
    s.rejectCommit g n p i reason = State.evaluateWaiting { s with
      store := { s.store with lockMark := none }
      batch := { s.batch with staging := .idle, result := .rejected g n reason i p }
      errors := raiseEvent .commitDone (recordError s.settings (.commitReject reason (some i)) s.errors) } :=
  rfl

/-- Settles O24: the read leaves the Batch Unit, and the judgement decides. -/
theorem commitValidates : Obligations.CommitValidates := by
  intro g n k ops copies tally op s hs hop i u needed
  have hbatch : u.batch = s.batch := State.readEntry_batch .commit i s
  refine ⟨fun hjudge => ?passes, fun reason hjudge => ?rejects⟩
  case passes =>
    rw [← hbatch]
    exact execCommitValidation_passes hs hop hjudge
  case rejects =>
    rw [← hbatch, ← rejectCommit_eq]
    exact execCommitValidation_rejects hs hop hjudge

end Sys2Proof.Machine
end

section
/-! SUPPORT. What an event does to the Staging Buffer and the Sweep Engine, taken apart into shifts: each row of the
command table is a chain of shifts, so that the laws of the two are proved shift by shift (06 R101, R117, R121, 09 R149,
R156, R162). -/

namespace Sys2Proof.Machine

/-! ### The Staging Buffer and the Commit Result (06 R103 to R123) -/

/-- The record is no Commit Result OK. -/
def NotOk (r : CommitResult) : Prop := ∀ g n x, r ≠ .ok g n x

/-- What one event makes of the Batch Unit. -/
inductive BatchTurn (b : BatchUnit) : BatchUnit → Prop
  /-- The buffer returns to IDLE: an abort, a discard, a rejection, an abandoned commit, a reset. -/
  | emptied (a : Option AbortReason) {r : CommitResult} (h : r = b.result ∨ NotOk r) : BatchTurn b ⟨.idle, a, r⟩
  /-- A batch is opened (R103). -/
  | opened (g : Group) {n : Nat} (hpos : 0 < n) (hmax : n ≤ 32) : BatchTurn b ⟨.loading g n [], none, b.result⟩
  /-- An op is appended (R104). -/
  | loaded {g : Group} {n : Nat} {ops : List BatchOp} {op : BatchOp} (h : b.staging = .loading g n ops)
      (hgroup : groupOf (opEntry op) = g) (hnew : opEntry op ∉ ops.map opEntry) :
      BatchTurn b { b with staging := appendOp g n ops op }
  /-- A commit is accepted (R110). -/
  | accepted {g : Group} {n : Nat} {ops : List BatchOp} (h : b.staging = .loaded g n ops) :
      BatchTurn b { b with staging := .committing g n ops [] 0 ⟨0, 0, 0, 0, 0⟩, result := .inProgress g ops.length }
  /-- The next op is validated (R112). -/
  | validated {g : Group} {n k : Nat} {ops : List BatchOp} {copies : List ValidatedCopy} {x : Tally} (c : ValidatedCopy)
      (h : b.staging = .committing g n ops copies k x) (hleft : copies.length < ops.length) :
      BatchTurn b { b with staging := .committing g n ops (copies ++ [c]) k x }
  /-- The next op is applied (R117). -/
  | applied {g : Group} {n k : Nat} {ops : List BatchOp} {copies : List ValidatedCopy} {x : Tally} (c : Config.Tallied)
      (h : b.staging = .committing g n ops copies k x) (hvalid : copies.length = ops.length) (hleft : k < ops.length) :
      BatchTurn b { b with staging := .committing g n ops copies (k + 1) (tallied c x) }
  /-- The commit completes (R121). -/
  | completed {g : Group} {n : Nat} {ops : List BatchOp} {copies : List ValidatedCopy} {x : Tally}
      (h : b.staging = .committing g n ops copies ops.length x) : BatchTurn b ⟨.idle, b.abort, .ok g ops.length x⟩

/-! ### The Sweep Engine (09 R149 to R162) -/

/-- The walk may turn to the state: a suspended one stays so while a commit runs, and a scrub never waits (R149, R156). -/
def MayTurn (commits : Bool) (w : Walk) (x : WalkState) : Prop :=
  (commits = true → w.state = .suspended → x = .suspended) ∧ (w.kind = .scrub → x ≠ .waitingDrain)

/-- What one event makes of the Sweep Engine, a commit running or not. -/
inductive WalkTurn (commits : Bool) (e : SweepEngine) : SweepEngine → Prop
  /-- A walk starts (R150). -/
  | started (k : WalkKind) (hidle : commits = false) :
      WalkTurn commits e ⟨some ⟨.running, k, 0⟩, some ⟨.inProgress, freshSubject k, 0, 0⟩⟩
  /-- The walk ends, and its report says how (R160, R161). -/
  | ended (f : SweepReport → SweepReport) (hf : ∀ r, (f r).ending ≠ .inProgress) :
      WalkTurn commits e ⟨none, e.result.map f⟩
  /-- A count of the report rises (R153, R156). -/
  | counted (f : SweepReport → SweepReport) (hf : ∀ r, (f r).ending = r.ending ∧ (f r).cursor = r.cursor) :
      WalkTurn commits e ⟨e.walk, e.result.map f⟩
  /-- The cursor moves on, in the engine and in the report (R158, R161). -/
  | moved {w : Walk} {x : WalkState} (i : EntryIx) (hw : e.walk = some w) (hx : MayTurn commits w x) :
      WalkTurn commits e ⟨some ⟨x, w.kind, i⟩, e.result.map (fun r => { r with cursor := i.val })⟩
  /-- The walk is suspended, resumed, cancelled in SUSPENDING, or waits (R153, R157 to R160). -/
  | turned {w : Walk} {x : WalkState} (hw : e.walk = some w) (hx : MayTurn commits w x) :
      WalkTurn commits e ⟨some { w with state := x }, e.result⟩
  /-- A full reset (12 R187). -/
  | cleared : WalkTurn commits e SweepEngine.reset

/-! ### Shifts -/

/-- One shift of an event. -/
inductive Shift (s t : State) : Prop
  /-- Neither block changes. -/
  | quiet (hbatch : t.batch = s.batch) (hsweep : t.sweep = s.sweep)
  /-- The Batch Unit changes; a commit begins only while no walk takes steps (06 R109). -/
  | batch (h : BatchTurn s.batch t.batch) (hsweep : t.sweep = s.sweep)
      (hheld : committing s.batch.staging = false → committing t.batch.staging = true →
        ∀ w, s.sweep.walk = some w → w.state = .suspended)
  /-- The Sweep Engine changes. -/
  | walk (hbatch : t.batch = s.batch) (h : WalkTurn (committing s.batch.staging) s.sweep t.sweep)

/-- A chain of shifts. -/
abbrev Shifts : State → State → Prop := Relation.ReflTransGen Shift

theorem Shifts.trans {s t u : State} (hst : Shifts s t) (htu : Shifts t u) : Shifts s u :=
  Relation.ReflTransGen.trans hst htu

theorem shifts_quiet {s t : State} (hbatch : t.batch = s.batch) (hsweep : t.sweep = s.sweep) : Shifts s t :=
  .single (.quiet hbatch hsweep)

/-- A chain goes on with an operation on other fields. -/
theorem Shifts.thenQuiet {s t u : State} (h : Shifts s t) (hbatch : u.batch = t.batch) (hsweep : u.sweep = t.sweep) :
    Shifts s u :=
  h.tail (.quiet hbatch hsweep)

/-- What every shift keeps, a chain of shifts keeps. -/
theorem kept_of_shifts {P : State → Prop} (hP : ∀ {s t}, Shift s t → P s → P t) {s t : State} (h : Shifts s t)
    (hs : P s) : P t := by
  induction h with
  | refl => exact hs
  | tail _ hshift ih => exact hP hshift ih

/-! ### The Staging Buffer's laws (06 R101, R117, R121) -/

/-- The laws of the buffer alone. -/
def StagingSound : Staging → Prop
  | .idle => True
  | .loading g n ops => ops.length < n ∧ n ≤ 32 ∧ opsOf g ops
  | .loaded g n ops => ops.length = n ∧ 0 < n ∧ n ≤ 32 ∧ opsOf g ops
  | .committing g n ops copies k t =>
    ops.length = n ∧ 0 < n ∧ n ≤ 32 ∧ opsOf g ops ∧ copies.length ≤ n ∧ k ≤ n ∧ (k ≠ 0 → copies.length = n)
      ∧ tallySum t = k

/-- The counts of a Commit Result OK add up. -/
def ResultSound (r : CommitResult) : Prop := ∀ g n t, r = .ok g n t → tallySum t = n

theorem stagingLaw_iff (s : State) : StagingLaw s ↔ StagingSound s.batch.staging ∧ ResultSound s.batch.result := by
  unfold StagingLaw ResultSound
  refine and_congr_left' ?_
  cases s.batch.staging <;> exact Iff.rfl

theorem resultSound_of_notOk {r : CommitResult} (h : NotOk r) : ResultSound r := fun g n x hr => absurd hr (h g n x)

theorem tallySum_tallied (c : Config.Tallied) (t : Tally) : tallySum (tallied c t) = tallySum t + 1 := by
  cases c <;> simp only [tallied, tallySum] <;> omega

theorem opsOf_append {g : Group} {ops : List BatchOp} {op : BatchOp} (h : opsOf g ops)
    (hgroup : groupOf (opEntry op) = g) (hnew : opEntry op ∉ ops.map opEntry) : opsOf g (ops ++ [op]) := by
  obtain ⟨hin, hnodup⟩ := h
  refine ⟨fun x hx => ?_, ?_⟩
  · rcases List.mem_append.1 hx with hx | hx
    · exact hin x hx
    · rwa [List.mem_singleton.1 hx]
  · rw [List.map_append]
    exact hnodup.append (List.nodup_singleton _) (List.disjoint_singleton.2 hnew)

/-- The load that reaches the declared count leaves the buffer LOADED (06 R104). -/
theorem stagingSound_appendOp {g : Group} {n : Nat} {ops : List BatchOp} {op : BatchOp}
    (h : StagingSound (.loading g n ops)) (hgroup : groupOf (opEntry op) = g) (hnew : opEntry op ∉ ops.map opEntry) :
    StagingSound (appendOp g n ops op) := by
  obtain ⟨hlength, hmax, hops⟩ := h
  have happended := opsOf_append hops hgroup hnew
  have hone : (ops ++ [op]).length = ops.length + 1 := List.length_append
  unfold appendOp
  split
  · exact ⟨by omega, by omega, hmax, happended⟩
  · exact ⟨by omega, hmax, happended⟩

theorem stagingSound_validated {g : Group} {n k : Nat} {ops : List BatchOp} {copies : List ValidatedCopy} {x : Tally}
    (h : StagingSound (.committing g n ops copies k x)) (hleft : copies.length < ops.length) (c : ValidatedCopy) :
    StagingSound (.committing g n ops (copies ++ [c]) k x) := by
  obtain ⟨hlength, hpos, hmax, hops, _, hk, hvalid, hsum⟩ := h
  have hone : (copies ++ [c]).length = copies.length + 1 := List.length_append
  exact ⟨hlength, hpos, hmax, hops, by omega, hk, fun hne => by have := hvalid hne; omega, hsum⟩

theorem stagingSound_applied {g : Group} {n k : Nat} {ops : List BatchOp} {copies : List ValidatedCopy} {x : Tally}
    (h : StagingSound (.committing g n ops copies k x)) (hvalid : copies.length = ops.length) (hleft : k < ops.length)
    (c : Config.Tallied) : StagingSound (.committing g n ops copies (k + 1) (tallied c x)) := by
  obtain ⟨hlength, hpos, hmax, hops, hcopies, _, _, hsum⟩ := h
  exact ⟨hlength, hpos, hmax, hops, hcopies, by omega, fun _ => hvalid.trans hlength, by rw [tallySum_tallied, hsum]⟩

/-- Every turn of the Batch Unit keeps the laws of the buffer and of the result. -/
theorem sound_of_batchTurn {b b' : BatchUnit} (h : BatchTurn b b') (hs : StagingSound b.staging)
    (hr : ResultSound b.result) : StagingSound b'.staging ∧ ResultSound b'.result := by
  cases h with
  | emptied a h =>
    rcases h with rfl | hnot
    · exact ⟨trivial, hr⟩
    · exact ⟨trivial, resultSound_of_notOk hnot⟩
  | opened g hpos hmax => exact ⟨⟨hpos, hmax, nofun, List.nodup_nil⟩, hr⟩
  | loaded h hgroup hnew =>
    rw [h] at hs
    exact ⟨stagingSound_appendOp hs hgroup hnew, hr⟩
  | accepted h =>
    rw [h] at hs
    obtain ⟨hlength, hpos, hmax, hops⟩ := hs
    exact ⟨⟨hlength, hpos, hmax, hops, Nat.zero_le _, Nat.zero_le _, fun hne => absurd rfl hne, rfl⟩,
      resultSound_of_notOk nofun⟩
  | validated c h hleft =>
    rw [h] at hs
    exact ⟨stagingSound_validated hs hleft c, hr⟩
  | applied c h hvalid hleft =>
    rw [h] at hs
    exact ⟨stagingSound_applied hs hvalid hleft c, hr⟩
  | completed h =>
    rw [h] at hs
    obtain ⟨_, _, _, _, _, _, _, hsum⟩ := hs
    refine ⟨trivial, ?_⟩
    rintro g n t ⟨⟩
    exact hsum

theorem stagingLaw_of_shift {s t : State} (h : Shift s t) (hs : StagingLaw s) : StagingLaw t := by
  rw [stagingLaw_iff] at hs ⊢
  obtain ⟨hstaging, hresult⟩ := hs
  cases h with
  | quiet hbatch _ => exact hbatch ▸ ⟨hstaging, hresult⟩
  | batch h _ _ => exact sound_of_batchTurn h hstaging hresult
  | walk hbatch _ => exact hbatch ▸ ⟨hstaging, hresult⟩

/-! ### The walk's laws (09 R149, R156, R162) -/

/-- The walk's laws, a commit running or not. -/
def EngineSound (commits : Bool) (e : SweepEngine) : Prop :=
  (∀ w, e.walk = some w →
    (commits = true → w.state = .suspended) ∧ (w.kind = .scrub → w.state ≠ .waitingDrain)
    ∧ ∃ r, e.result = some r ∧ r.ending = .inProgress ∧ r.cursor = w.cursor.val)
  ∧ (e.walk = none → ∀ r, e.result = some r → r.ending ≠ .inProgress)

theorem walkLaw_iff (s : State) : WalkLaw s ↔ EngineSound (committing s.batch.staging) s.sweep := Iff.rfl

/-- A walk stands in the engine, with its report. -/
theorem engineSound_of_walk {commits : Bool} {w : Walk} {r : SweepReport}
    (hcommit : commits = true → w.state = .suspended) (hscrub : w.kind = .scrub → w.state ≠ .waitingDrain)
    (hending : r.ending = .inProgress) (hcursor : r.cursor = w.cursor.val) : EngineSound commits ⟨some w, some r⟩ := by
  refine ⟨?_, nofun⟩
  rintro w ⟨⟩
  exact ⟨hcommit, hscrub, r, rfl, hending, hcursor⟩

/-- No walk stands, and the report is none that is IN_PROGRESS. -/
theorem engineSound_of_idle {commits : Bool} {x : Option SweepReport} (h : ∀ r, x = some r → r.ending ≠ .inProgress) :
    EngineSound commits ⟨none, x⟩ :=
  ⟨nofun, fun _ => h⟩

theorem engineSound_of_walkTurn {commits : Bool} {e e' : SweepEngine} (h : WalkTurn commits e e')
    (hs : EngineSound commits e) : EngineSound commits e' := by
  obtain ⟨hwalking, hidle⟩ := hs
  cases h with
  | started k hfree => exact engineSound_of_walk (by simp [hfree]) (fun _ => nofun) rfl rfl
  | ended f hf =>
    refine engineSound_of_idle fun r hr => ?_
    obtain ⟨r', _, rfl⟩ := Option.map_eq_some_iff.1 hr
    exact hf r'
  | counted f hf =>
    cases hw : e.walk with
    | none =>
      refine engineSound_of_idle fun r hr => ?_
      obtain ⟨r', hr', rfl⟩ := Option.map_eq_some_iff.1 hr
      obtain ⟨hfending, _⟩ := hf r'
      rw [hfending]
      exact hidle hw r' hr'
    | some w =>
      obtain ⟨hcommit, hscrub, r, hr, hending, hcursor⟩ := hwalking w hw
      obtain ⟨hfending, hfcursor⟩ := hf r
      rw [hr]
      exact engineSound_of_walk hcommit hscrub (hfending.trans hending) (hfcursor.trans hcursor)
  | moved i hw hx =>
    obtain ⟨hcommit, _, r, hr, hending, _⟩ := hwalking _ hw
    obtain ⟨hstays, hnever⟩ := hx
    rw [hr]
    exact engineSound_of_walk (fun hc => hstays hc (hcommit hc)) hnever hending rfl
  | turned hw hx =>
    obtain ⟨hcommit, _, r, hr, hending, hcursor⟩ := hwalking _ hw
    obtain ⟨hstays, hnever⟩ := hx
    rw [hr]
    exact engineSound_of_walk (fun hc => hstays hc (hcommit hc)) hnever hending hcursor
  | cleared => exact engineSound_of_idle nofun

/-- The Batch Unit changes, and a commit that begins finds no walk that takes steps. -/
theorem engineSound_recommitted {c c' : Bool} {e : SweepEngine} (hs : EngineSound c e)
    (h : c = false → c' = true → ∀ w, e.walk = some w → w.state = .suspended) : EngineSound c' e := by
  obtain ⟨hwalking, hidle⟩ := hs
  refine ⟨fun w hw => ?_, hidle⟩
  obtain ⟨hcommit, hrest⟩ := hwalking w hw
  refine ⟨fun hc' => ?_, hrest⟩
  cases hc : c with
  | true => exact hcommit hc
  | false => exact h hc hc' w hw

theorem walkLaw_of_shift {s t : State} (h : Shift s t) (hs : WalkLaw s) : WalkLaw t := by
  rw [walkLaw_iff] at hs ⊢
  cases h with
  | quiet hbatch hsweep => rwa [hbatch, hsweep]
  | batch _ hsweep hheld =>
    rw [hsweep]
    exact engineSound_recommitted hs hheld
  | walk hbatch h =>
    rw [hbatch]
    exact engineSound_of_walkTurn h hs

end Sys2Proof.Machine
end

section
/-! SUPPORT. The shared operations, the walk's steps, the resets and the load of the image as chains of shifts. -/

namespace Sys2Proof.Machine

/-! ### Operations on other blocks (01 to 05, 07, 10) -/

theorem shifts_report (e : ErrorRecord) (s : State) : Shifts s (s.report e) := shifts_quiet rfl rfl

theorem shifts_raise (k : EventKind) (s : State) : Shifts s (s.raise k) := shifts_quiet rfl rfl

theorem shifts_readEntry (f : Finder) (i : EntryIx) (s : State) : Shifts s (s.readEntry f i) :=
  shifts_quiet (State.readEntry_batch f i s) (State.readEntry_sweep f i s)

theorem shifts_fault (r : ReqId) (k : FaultKind) (s : State) : Shifts s (s.fault r k) :=
  shifts_quiet (State.fault_batch r k s) (State.fault_sweep r k s)

theorem shifts_freeClaim (t : Tag) (s : State) : Shifts s (s.freeClaim t) :=
  shifts_quiet (State.freeClaim_batch t s) (State.freeClaim_sweep t s)

theorem shifts_putSlot (k : SlotIx) (x : Slot) (s : State) : Shifts s (s.putSlot k x) := shifts_quiet rfl rfl

theorem shifts_dropSlot (k : SlotIx) (s : State) : Shifts s (s.dropSlot k) := by
  unfold State.dropSlot
  split
  · exact (shifts_putSlot k .empty s).trans (shifts_freeClaim _ _)
  · exact shifts_putSlot k .empty s

theorem shifts_endDrain (i : EntryIx) (s : State) : Shifts s (s.endDrain i) :=
  shifts_quiet (State.endDrain_batch i s) (State.endDrain_sweep i s)

theorem shifts_acceptClearing (r : ReqId) (x : Clearing) (s : State) : Shifts s (s.acceptClearing r x) :=
  shifts_quiet (State.acceptClearing_batch r x s) (State.acceptClearing_sweep r x s)

theorem shifts_evaluateWaiting (s : State) : Shifts s s.evaluateWaiting :=
  shifts_quiet (State.evaluateWaiting_batch s) (State.evaluateWaiting_sweep s)

theorem shifts_deliver (r : ReqId) (a : Response) (s : State) : Shifts s (s.deliver r a) :=
  shifts_quiet (State.deliver_batch r a s) (State.deliver_sweep r a s)

theorem shifts_resolveRequest (q : Request) (s : State) : Shifts s (s.resolveRequest q).1 := by
  obtain ⟨_, _, _, _, _, _, h⟩ := State.resolveRequest_shape q s
  rw [h]
  exact shifts_quiet rfl rfl

theorem shifts_releaseRequest (r : ReqId) (t : Tag) (s : State) : Shifts s (s.releaseRequest r t).1 := by
  obtain ⟨_, _, _, _, _, _, h⟩ := State.releaseRequest_shape r t s
  rw [h]
  exact shifts_quiet rfl rfl

theorem shifts_slotResetRequest (r : ReqId) (s : State) : Shifts s (s.slotResetRequest r) := by
  obtain ⟨_, _, _, _, _, _, _, _, h⟩ := State.slotResetRequest_shape r s
  rw [h]
  exact shifts_quiet rfl rfl

theorem shifts_applyOp (op : BatchOp) (c : ValidatedCopy) (s : State) : Shifts s (s.applyOp op c).1 :=
  shifts_quiet (State.applyOp_batch op c s) (State.applyOp_sweep op c s)

/-! ### The walk's steps (09 R152 to R161) -/

/-- A walk that is not suspended may turn to any state but the wait of a scrub. -/
theorem mayTurn_of_not_suspended {commits : Bool} {w : Walk} {x : WalkState} (hw : w.state ≠ .suspended)
    (hx : w.kind = .scrub → x ≠ .waitingDrain) : MayTurn commits w x :=
  ⟨fun _ hs => absurd hs hw, hx⟩

theorem endWalk_sweep (w : Walk) (x : WalkEnd) (s : State) :
    (s.endWalk w x).sweep = ⟨none, s.sweep.result.map (fun r => { r with ending := x })⟩ := by
  unfold State.endWalk State.reopen
  split
  · rfl
  · rfl

theorem shifts_endWalk (w : Walk) {x : WalkEnd} (hx : x ≠ .inProgress) (s : State) : Shifts s (s.endWalk w x) := by
  refine .single (.walk (State.endWalk_batch w x s) ?_)
  rw [endWalk_sweep]
  exact .ended _ fun _ => hx

theorem shifts_cancelled (w : Walk) (s : State) : Shifts s (s.endWalk w .cancelled) :=
  shifts_endWalk w (WalkEnd.noConfusion) s

/-- A report whose cursor has moved on is closed. -/
theorem walkTurn_endWalk_moved (commits : Bool) (w : Walk) {x : WalkEnd} (hx : x ≠ .inProgress) (n : Nat) (s : State) :
    WalkTurn commits s.sweep ((s.updateReport (fun r => { r with cursor := n })).endWalk w x).sweep := by
  rw [endWalk_sweep]
  have hmap : (s.updateReport (fun r => { r with cursor := n })).sweep.result.map (fun r => { r with ending := x })
      = s.sweep.result.map (fun r => { r with cursor := n, ending := x }) := Option.map_map ..
  rw [hmap]
  exact .ended _ fun _ => hx

section Stepping

variable {s : State} {w : Walk} (hw : s.sweep.walk = some w) (hstate : w.state ≠ .suspended)

include hw hstate

/-- The cursor of a walk moves on, from any state the step is made in. -/
theorem shifts_advance (y : WalkState) (n : Nat) : Shifts s (s.advance { w with state := y } n) := by
  refine .single (.walk (State.advance_batch _ n s) ?_)
  have hclosed (v : Walk) {x : WalkEnd} (hx : x ≠ .inProgress) :=
    walkTurn_endWalk_moved (committing s.batch.staging) v hx n s
  have hmoved (x : WalkState) (hx : x ≠ .waitingDrain) {i : EntryIx} (hi : i.val = n) :
      WalkTurn (committing s.batch.staging) s.sweep
        ⟨some ⟨x, w.kind, i⟩, s.sweep.result.map (fun r => { r with cursor := n })⟩ :=
    hi ▸ .moved i hw (mayTurn_of_not_suspended hstate fun _ => hx)
  unfold State.advance
  dsimp only
  split
  · exact hclosed _ WalkEnd.noConfusion
  · rename_i i hi
    have hval := indexBelow_some hi
    split
    · exact hclosed _ WalkEnd.noConfusion
    · exact hmoved .suspended WalkState.noConfusion hval
    · exact hmoved .running WalkState.noConfusion hval

/-- A domain sweep's step lacks a drain item. -/
theorem shifts_lackItem {d : Domain} (hkind : w.kind = .domainSweep d) (y : WalkState) :
    Shifts s (s.lackItem { w with state := y }) := by
  have hturned (x : WalkState) :
      Shifts s { s with sweep := { s.sweep with walk := some { w with state := x } } } :=
    .single (.walk rfl (.turned hw (mayTurn_of_not_suspended hstate (by simp [hkind]))))
  unfold State.lackItem
  split
  · exact shifts_cancelled _ s
  · exact hturned _
  · exact hturned _

end Stepping

theorem updateCounts_keeps (f : SweepCounts → SweepCounts) (r : SweepReport) :
    (updateCounts f r).ending = r.ending ∧ (updateCounts f r).cursor = r.cursor := by
  unfold updateCounts
  split
  · exact ⟨rfl, rfl⟩
  · exact ⟨rfl, rfl⟩

theorem shifts_updateCounts (f : SweepCounts → SweepCounts) (s : State) : Shifts s (s.updateReport (updateCounts f)) :=
  .single (.walk rfl (.counted _ (updateCounts_keeps f)))

theorem shifts_countPoisoned (s : State) : Shifts s s.countPoisoned :=
  .single (.walk rfl (.counted (fun r => { r with poisoned := r.poisoned + 1 }) fun _ => ⟨rfl, rfl⟩))

section Stepping

variable {s : State} {w : Walk} (hw : s.sweep.walk = some w) (hstate : w.state ≠ .suspended)

include hw hstate

/-- A domain sweep takes the entry at its cursor, in a step or in a retake. -/
theorem shifts_sweepTake {d : Domain} (hkind : w.kind = .domainSweep d) (y : WalkState) (d' : Domain) :
    Shifts s (s.sweepTake { w with state := y } d') := by
  have hread := shifts_readEntry .sweep w.cursor s
  have hstands : (s.readEntry .sweep w.cursor).sweep.walk = some w := by rw [State.readEntry_sweep, hw]
  unfold State.sweepTake
  dsimp only
  generalize s.readEntry .sweep w.cursor = u at hread hstands ⊢
  have hpassed := hread.trans (shifts_advance hstands hstate y (w.cursor.val + 1))
  have hcounted (v : State) (hbatch : v.batch = u.batch) (hsweep : v.sweep = u.sweep) (f : SweepCounts → SweepCounts) :
      Shifts s ((v.updateReport (updateCounts f)).advance { w with state := y } (w.cursor.val + 1)) := by
    have hwalk : (v.updateReport (updateCounts f)).sweep.walk = some w := by rw [← hstands, ← hsweep]; rfl
    exact ((hread.thenQuiet hbatch hsweep).trans (shifts_updateCounts f v)).trans (shifts_advance hwalk hstate y _)
  have hwritten (c : Contents) := hcounted (u.sweepWrite w.cursor c) rfl rfl
  split
  case h_1 =>
    exact (hread.trans (shifts_countPoisoned u)).trans (shifts_advance (s := u.countPoisoned) hstands hstate y _)
  case h_2 => exact hpassed
  case h_3 =>
    split
    · exact hwritten _ _
    · exact hpassed
  case h_4 =>
    split
    · split
      · exact hwritten _ _
      · split
        · exact hwritten _ _
        · split
          · exact hcounted ((u.sweepWrite w.cursor _).addDrain w.cursor) rfl rfl _
          · exact hread.trans (shifts_lackItem hstands hstate hkind y)
    · exact hpassed

theorem shifts_sweepStepOf {d : Domain} (hkind : w.kind = .domainSweep d) : Shifts s (s.sweepStepOf w d) := by
  unfold State.sweepStepOf
  split
  · exact (shifts_updateCounts _ s).trans (shifts_advance (s := s.updateReport _) hw hstate w.state _)
  · exact shifts_sweepTake hw hstate hkind w.state d

theorem shifts_scrubStepOf : Shifts s (s.scrubStepOf w) := by
  have hread := shifts_readEntry .scrub w.cursor s
  have hstands : (s.readEntry .scrub w.cursor).sweep.walk = some w := by rw [State.readEntry_sweep, hw]
  unfold State.scrubStepOf
  dsimp only
  split
  · exact (hread.trans (shifts_countPoisoned _)).trans
      (shifts_advance (s := (s.readEntry .scrub w.cursor).countPoisoned) hstands hstate w.state _)
  · exact hread.trans (shifts_advance hstands hstate w.state _)

end Stepping

theorem stepping_not_suspended {w : Walk} (h : stepping w = true) : w.state ≠ .suspended := by
  intro hs
  unfold stepping at h
  rw [hs] at h
  contradiction

/-- The retake of a waiting entry goes on from WAITING_DRAIN. -/
theorem shifts_retake (s : State) : Shifts s s.retake := by
  unfold State.retake
  split
  · rename_i w hw
    split
    · rename_i d hstate hkind
      exact shifts_sweepTake hw (by simp [hstate]) hkind .running d
    · exact .refl
  · exact .refl

/-- The end of an event adds at most a retake. -/
theorem Shifts.settled {s t : State} (h : Shifts s t) (u : State) : Shifts s (settle u t) := by
  rcases settle_cases u t with hsame | hretake
  · rwa [hsame]
  · rw [hretake]
    exact h.trans (shifts_retake t)

theorem shifts_cancelWalk (s : State) : Shifts s s.cancelWalk := by
  unfold State.cancelWalk
  split
  · exact shifts_cancelled _ s
  · exact .refl

/-! ### The commit (06 R112 to R121) -/

/-- The Batch Unit changes, and no commit is in progress afterwards. -/
theorem shifts_uncommitted {s t : State} (h : BatchTurn s.batch t.batch) (ht : committing t.batch.staging = false)
    (hsweep : t.sweep = s.sweep) : Shifts s t :=
  .single (.batch h hsweep fun _ hc => by rw [ht] at hc; contradiction)

/-- The buffer returns to IDLE, and no commit is reported as OK. -/
theorem shifts_emptied {s t : State} (hidle : t.batch.staging = .idle)
    (hresult : t.batch.result = s.batch.result ∨ NotOk t.batch.result) (hsweep : t.sweep = s.sweep) : Shifts s t := by
  refine shifts_uncommitted ?_ (by rw [hidle]; rfl) hsweep
  have hbatch : t.batch = ⟨.idle, t.batch.abort, t.batch.result⟩ := by rw [← hidle]
  rw [hbatch]
  exact .emptied _ hresult

/-- A commit in progress goes on. -/
theorem shifts_putStaging_committing {s : State} {x : Staging} (h : BatchTurn s.batch { s.batch with staging := x })
    (hs : committing s.batch.staging = true) : Shifts s (s.putStaging x) :=
  .single (.batch h rfl fun hfree _ => by rw [hs] at hfree; contradiction)

theorem shifts_rejectCommit (g : Group) (n p : Nat) (i : EntryIx) (x : RejectReason) (s : State) :
    Shifts s (s.rejectCommit g n p i x) := by
  have hclosed : Shifts s ((s.report (.commitReject x (some i))).closeCommit (.rejected g n x i p)) :=
    shifts_emptied rfl (.inr nofun) rfl
  exact hclosed.trans (shifts_evaluateWaiting _)

/-! ### The resets (12 R187, R188) -/

theorem notOk_abandonedResult (x : Staging) : NotOk (abandonedResult x) := by
  unfold abandonedResult
  split
  · nofun
  · nofun

theorem shifts_fullReset {r : CommitResult} (hr : NotOk r) (x : Transaction) (s : State) :
    Shifts s (s.fullReset r x) := by
  have hbatch : Shifts s { s with batch := BatchUnit.reset r } := shifts_emptied rfl (.inr hr) rfl
  exact hbatch.tail (.walk rfl .cleared)

theorem shifts_resetTables (s : State) : Shifts s s.resetTables := by
  have hbatch : s.resetTables.batch = abandonedBatch s.batch := rfl
  cases hs : committing s.batch.staging with
  | false => exact shifts_quiet (hbatch.trans (abandonedBatch_of_not_committing hs)) rfl
  | true =>
    unfold committing at hs
    split at hs
    · rename_i h
      refine shifts_emptied ?_ (.inr ?_) rfl
      · rw [hbatch]
        unfold abandonedBatch
        rw [h]
      · rw [hbatch, abandonedBatch_result_committing h]
        nofun
    · contradiction

theorem shifts_acceptTableReset (s : State) : Shifts s s.acceptTableReset := by
  rw [acceptTableReset_eq_cancelWalk]
  exact (shifts_resetTables s).trans (shifts_cancelWalk _)

/-! ### The load of the image and time (12 R183 to R189, log 2, log 5) -/

theorem shifts_imageLoadDone (s : State) : Shifts s s.loadRest.enterRunning :=
  (shifts_quiet (State.loadRest_batch s) (State.loadRest_sweep s)).thenQuiet (State.enterRunning_batch _)
    (State.enterRunning_sweep _)

theorem shifts_preloadReloadDone (s : State) : Shifts s s.loadFromPreload.enterRunning := by
  obtain ⟨_, _, _, h⟩ := State.loadFromPreload_shape s
  have hloaded : Shifts s s.loadFromPreload := by
    rw [h]
    exact shifts_quiet rfl rfl
  exact hloaded.thenQuiet (State.enterRunning_batch _) (State.enterRunning_sweep _)

theorem shifts_tick (s : State) : Shifts s s.tick := by
  obtain ⟨_, _, _, _, _, _, _, h⟩ := State.loadTick_shape s
  rw [tick_eq, h]
  exact shifts_quiet rfl rfl

end Sys2Proof.Machine
end

section
/-! SUPPORT. The host commands as chains of shifts (06 R103 to R110, 09 R150 to R160, 11 R181). -/

namespace Sys2Proof.Machine

section Bodies

variable (s : State)

/-! ### The batch commands (06 R103 to R110) -/

theorem shifts_abortBatch (x : AbortReason) : Shifts s (s.abortBatch x) := shifts_emptied rfl (.inl rfl) rfl

theorem shifts_openTests : Shifts s s.openTests.1 := by
  unfold State.openTests
  split
  · exact .refl
  · split
    · exact .refl
    · dsimp only
      split
      · exact .refl
      · split
        · exact shifts_abortBatch s _
        · exact shifts_uncommitted (.opened _ (by omega) (by omega)) rfl rfl

theorem committing_appendOp (g : Group) (n : Nat) (ops : List BatchOp) (op : BatchOp) :
    committing (appendOp g n ops op) = false := by
  unfold appendOp
  split
  · rfl
  · rfl

theorem shifts_loadTests : Shifts s s.loadTests.1 := by
  unfold State.loadTests
  split
  · exact .refl
  · exact .refl
  · exact shifts_abortBatch s _
  · rename_i g n ops hs
    split
    · exact .refl
    · split
      · exact shifts_abortBatch s _
      · rename_i hgroup
        split
        · exact shifts_abortBatch s _
        · rename_i hnew
          exact shifts_uncommitted (.loaded hs (not_not.1 hgroup) (mt (any_opEntry_iff _ _).2 hnew))
            (committing_appendOp _ _ _ _) rfl

theorem shifts_discardTests : Shifts s s.discardTests.1 := by
  unfold State.discardTests
  split
  · exact .refl
  · exact shifts_emptied rfl (.inl rfl) rfl

/-- A commit is accepted only while no walk takes steps (06 R109). -/
theorem shifts_commitTests : Shifts s s.commitTests.1 := by
  unfold State.commitTests
  split
  · exact .refl
  · exact shifts_abortBatch s _
  · exact .refl
  · rename_i g n ops hs
    split
    · exact shifts_emptied rfl (.inr nofun) rfl
    · split
      · exact .refl
      · rename_i hheld
        refine .single (.batch (.accepted hs) rfl fun _ _ w hw => ?_)
        by_contra hstate
        exact hheld ((sweepHolds_iff s g).2 ⟨w, hw, .inl hstate⟩)

/-! ### The freeze commands (08 R141 to R144) -/

theorem shifts_freezeGroupTests : Shifts s s.freezeGroupTests.1 := by
  unfold State.freezeGroupTests
  split
  · exact .refl
  · split
    · exact .refl
    · exact shifts_quiet rfl rfl

theorem shifts_thawGroupTests : Shifts s s.thawGroupTests.1 := by
  unfold State.thawGroupTests
  split
  · exact .refl
  · split
    · exact .refl
    · exact shifts_quiet rfl rfl

theorem shifts_freezeAllTests : Shifts s s.freezeAllTests.1 := by
  unfold State.freezeAllTests
  split
  · exact .refl
  · exact shifts_quiet rfl rfl

theorem shifts_freezeRangeTests : Shifts s s.freezeRangeTests.1 := by
  unfold State.freezeRangeTests
  split
  · exact .refl
  · split
    · exact .refl
    · exact shifts_quiet rfl rfl

/-! ### The walk commands (09 R150 to R160) -/

/-- A walk starts only while no commit runs (R150). -/
theorem shifts_startWalk (k : WalkKind) : Shifts s (s.startWalk k).1 := by
  unfold State.startWalk
  split
  · exact .refl
  · rename_i hfree
    have hidle : committing s.batch.staging = false := Bool.not_eq_true _ ▸ (not_or.1 hfree).2
    cases k with
    | domainSweep d => exact .single (.walk rfl (.started (.domainSweep d) hidle))
    | scrub => exact .single (.walk rfl (.started .scrub hidle))

theorem shifts_domainSweepTests : Shifts s s.domainSweepTests.1 := by
  unfold State.domainSweepTests
  split
  · exact .refl
  · exact shifts_startWalk s _

variable {s} in
/-- The walk in a new state. -/
theorem shifts_walkIn {w : Walk} {x : WalkState} (hw : s.sweep.walk = some w)
    (hx : MayTurn (committing s.batch.staging) w x) : Shifts s (s.walkIn x w) :=
  .single (.walk rfl (.turned hw hx))

theorem shifts_suspendTests : Shifts s s.suspendTests.1 := by
  unfold State.suspendTests
  split
  · exact .refl
  · rename_i w hw
    split
    · rename_i hstate
      exact shifts_walkIn hw (mayTurn_of_not_suspended (by simp [hstate]) fun _ => WalkState.noConfusion)
    · rename_i hstate
      exact shifts_walkIn hw (mayTurn_of_not_suspended (by simp [hstate]) fun _ => WalkState.noConfusion)
    · exact .refl
    · exact .refl

/-- A walk resumes only while no commit runs (R158). -/
theorem shifts_resumeTests : Shifts s s.resumeTests.1 := by
  unfold State.resumeTests
  split
  · exact .refl
  · rename_i w hw
    split
    · exact .refl
    · split
      · exact .refl
      · rename_i hidle
        exact shifts_walkIn hw ⟨fun hcommits => absurd hcommits hidle, fun _ => WalkState.noConfusion⟩

theorem shifts_cancelTests : Shifts s s.cancelTests.1 := by
  unfold State.cancelTests
  split
  · exact .refl
  · rename_i w hw
    split
    · rename_i hstate
      exact shifts_walkIn hw (mayTurn_of_not_suspended (by simp [hstate]) fun _ => WalkState.noConfusion)
    · exact shifts_cancelled w s
    · exact shifts_cancelled w s
    · exact shifts_cancelled w s

/-! ### FORCE_DRAIN, the requester commands and READ_ENTRY (07 R133, 02 R26, R34, R36, 11 R182) -/

theorem shifts_forceDrainTests : Shifts s s.forceDrainTests.1 := by
  unfold State.forceDrainTests
  split
  · exact .refl
  · split
    · exact ((shifts_endDrain _ s).trans (shifts_raise _ _)).settled s
    · exact .refl

theorem shifts_domainSetTests : Shifts s s.domainSetTests.1 := by
  unfold State.domainSetTests
  split
  · exact .refl
  · split
    · exact .refl
    · exact shifts_quiet rfl rfl

theorem shifts_requesterSetTests : Shifts s s.requesterSetTests.1 := by
  unfold State.requesterSetTests
  split
  · exact .refl
  · rename_i o _
    split
    · exact .refl
    · cases o.standing with
      | disabled =>
        dsimp only
        exact (shifts_acceptClearing o.requester (.toDisabled o.domain o.limit) s).settled s
      | enabled => exact shifts_quiet rfl rfl
      | quarantined => exact shifts_quiet rfl rfl

theorem shifts_requesterResetTests : Shifts s s.requesterResetTests.1 := by
  unfold State.requesterResetTests
  split
  · exact .refl
  · rename_i r _
    split
    · exact .refl
    · dsimp only
      exact (shifts_acceptClearing r .toDefaults s).settled s

variable {s} in
theorem shifts_readEntryAnswer {u : State} {bytes : List Byte} (h : s.readEntryAnswer = some (u, bytes)) :
    Shifts s u := by
  unfold State.readEntryAnswer at h
  split at h
  · contradiction
  · cases h
    exact (shifts_readEntry _ _ s).settled s

end Bodies

/-! ### The gates of the commands (06 R107, 11 R181, R182) -/

/-- The effect of a command is a chain of shifts. -/
def Shifting (f : State → State) : Prop := ∀ s, Shifts s (f s)

theorem shifts_interrupt (s : State) : Shifts s s.interrupt := by
  unfold State.interrupt
  split
  · exact shifts_abortBatch s _
  · exact .refl

theorem shifting_interrupting {body : State → State × CommandEnd} (hbody : ∀ s, Shifts s (body s).1) :
    Shifting (State.interrupting body) := by
  intro s
  unfold State.interrupting
  split
  · exact shifts_quiet rfl rfl
  · exact ((shifts_interrupt s).trans (hbody _)).thenQuiet rfl rfl

theorem shifting_batchCommand {body : State → State × CommandEnd} (hbody : ∀ s, Shifts s (body s).1) :
    Shifting (State.batchCommand body) := by
  intro s
  unfold State.batchCommand
  split
  · exact shifts_quiet rfl rfl
  · exact (hbody s).thenQuiet rfl rfl

theorem shifting_query {answer : State → Option (State × List Byte)}
    (hanswer : ∀ {s u : State} {bytes : List Byte}, answer s = some (u, bytes) → Shifts s u) :
    Shifting (State.query answer) := by
  intro s
  unfold State.query
  split
  · rename_i u bytes hu
    exact (hanswer hu).thenQuiet rfl rfl
  · exact shifts_quiet rfl rfl

/-- A query that only looks. -/
theorem shifting_query_map {α : Type} (index : State → Option α) (bytes : State → α → List Byte) :
    Shifting (State.query (fun s => (index s).map (fun k => (s, bytes s k)))) := by
  refine shifting_query fun {s u _} h => ?_
  obtain ⟨k, _, hk⟩ := Option.map_eq_some_iff.1 h
  cases hk
  exact .refl

theorem shifting_query_some (bytes : State → List Byte) : Shifting (State.query (fun s => some (s, bytes s))) := by
  refine shifting_query fun {s u _} h => ?_
  cases h
  exact .refl

/-! ### The command table (11 R181) -/

/-- The effects of the batch, freeze and walk commands. -/
def lowEffects : List (State → State) :=
  [State.batchOpen, State.batchLoad, State.batchCommit, State.batchDiscard, State.freezeGroup, State.thawGroup,
    State.freezeAll, State.freezeRange, State.domainSweep, State.scrub, State.sweepSuspend, State.sweepResume,
    State.sweepCancel]

/-- The effects of the other commands, FULL_RESET apart. -/
def highEffects : List (State → State) :=
  [State.forceDrain, State.domainSet, State.requesterSet, State.requesterReset, State.clearErrors, State.tableReset,
    State.readEntryQuery, State.readClaimQuery, State.readPendingQuery, State.readDrainQuery, State.readRequesterQuery,
    State.readSweepResultQuery, State.readCommitResultQuery]

/-- What a chain of choices gives is the first choice or one of the rest. -/
theorem mem_cons_of_ite {c : Prop} [Decidable c] {f : State → State} {rest : Option (State → State)}
    {l : List (State → State)} (h : ∀ g ∈ rest, g ∈ l) : ∀ g ∈ if c then some f else rest, g ∈ f :: l := by
  split
  · rintro g ⟨⟩
    exact List.mem_cons_self
  · exact fun g hg => List.mem_cons_of_mem f (h g hg)

theorem lowCommand_mem (code : Byte) : ∀ f ∈ lowCommand code, f ∈ lowEffects := by
  unfold lowCommand lowEffects
  iterate 13 refine mem_cons_of_ite ?_
  nofun

theorem highCommand_mem (code : Byte) : ∀ f ∈ highCommand code, f ∈ highEffects := by
  unfold highCommand highEffects
  iterate 13 refine mem_cons_of_ite ?_
  nofun

/-- A code dispatched is FULL_RESET's, or has the effect of a command of the table or of an undefined code. -/
theorem dispatch_cases (code : Byte) (s : State) : s.dispatch code = s.fullResetCommand
    ∨ ∃ f, (f ∈ lowEffects ∨ f ∈ highEffects ∨ f = State.undefinedCommand) ∧ s.dispatch code = (f s).byteTaken := by
  unfold State.dispatch
  split
  · exact .inl rfl
  · refine .inr ⟨_, ?_, rfl⟩
    cases hlow : lowCommand code with
    | some f => exact .inl (lowCommand_mem code f hlow)
    | none =>
      cases hhigh : highCommand code with
      | some f => exact .inr (.inl (highCommand_mem code f hhigh))
      | none => exact .inr (.inr rfl)

theorem shifting_of_low : ∀ f ∈ lowEffects, Shifting f := by
  simp only [lowEffects, List.forall_mem_cons]
  exact ⟨shifting_interrupting shifts_openTests, shifting_batchCommand shifts_loadTests,
    shifting_batchCommand shifts_commitTests, shifting_batchCommand shifts_discardTests,
    shifting_interrupting shifts_freezeGroupTests, shifting_interrupting shifts_thawGroupTests,
    shifting_interrupting shifts_freezeAllTests, shifting_interrupting shifts_freezeRangeTests,
    shifting_interrupting shifts_domainSweepTests, shifting_interrupting fun s => shifts_startWalk s .scrub,
    shifting_interrupting shifts_suspendTests, shifting_interrupting shifts_resumeTests,
    shifting_interrupting shifts_cancelTests, nofun⟩

theorem shifting_of_high : ∀ f ∈ highEffects, Shifting f := by
  simp only [highEffects, List.forall_mem_cons]
  exact ⟨shifting_interrupting shifts_forceDrainTests, shifting_interrupting shifts_domainSetTests,
    shifting_interrupting shifts_requesterSetTests, shifting_interrupting shifts_requesterResetTests,
    shifting_interrupting fun _ => shifts_quiet rfl rfl, shifting_interrupting shifts_acceptTableReset,
    shifting_query shifts_readEntryAnswer, shifting_query_map _ _, shifting_query_map _ _, shifting_query_map _ _,
    shifting_query_map _ _, shifting_query_some _, shifting_query_some _, nofun⟩

theorem shifting_undefinedCommand : Shifting State.undefinedCommand := fun _ => shifts_quiet rfl rfl

/-- A load is counted, and the full reset begins (12 R187). -/
theorem shifts_fullResetCommand (s : State) : Shifts s s.fullResetCommand := by
  have hcounted : Shifts s { s with loads := s.loads + 1 } := shifts_quiet rfl rfl
  exact hcounted.trans (shifts_fullReset (notOk_abandonedResult s.batch.staging) (cutTransaction s.mgmt.transaction) _)

theorem shifting_dispatch (code : Byte) : Shifting (State.dispatch code) := by
  intro s
  rcases dispatch_cases code s with h | ⟨f, hf, h⟩
  · rw [h]
    exact shifts_fullResetCommand s
  · have heffect : Shifting f := by
      rcases hf with hlow | hhigh | rfl
      · exact shifting_of_low f hlow
      · exact shifting_of_high f hhigh
      · exact shifting_undefinedCommand
    rw [h]
    exact (heffect s).thenQuiet rfl rfl

end Sys2Proof.Machine
end

section
/-! SUPPORT. Every row of the command table is a chain of shifts, and so is every step; the laws of the Staging Buffer and
of the walk follow shift by shift (06 R101, R117, R121, 09 R149, R156, R162). -/

namespace Sys2Proof.Machine

/-- A next state, if the outcome is one, is reached by a chain of shifts. -/
def EndsShifted (s : State) (o : Host.Outcome State Fault Refusal) : Prop := ∀ t, o = .next t → Shifts s t

section Rows

variable {s : State}

theorem endsShifted_next {t : State} (h : Shifts s t) : EndsShifted s (.next t) := by
  rintro u ⟨⟩
  exact h

theorem endsShifted_same : EndsShifted s (.next s) := endsShifted_next .refl

theorem endsShifted_ite {c : Prop} [Decidable c] {a b : Host.Outcome State Fault Refusal} (ha : c → EndsShifted s a)
    (hb : EndsShifted s b) : EndsShifted s (if c then a else b) := by
  split
  · exact ha ‹c›
  · exact hb

/-- A row that does something where its event arises, and nothing elsewhere (log 1). -/
theorem endsShifted_ite_same {c : Prop} [Decidable c] {t : State} (h : c → Shifts s t) :
    EndsShifted s (if c then .next t else .next s) :=
  endsShifted_ite (fun hc => endsShifted_next (h hc)) endsShifted_same

/-- A row whose event touches neither block. -/
theorem endsShifted_quiet {c : Prop} [Decidable c] {t : State} (hbatch : t.batch = s.batch) (hsweep : t.sweep = s.sweep) :
    EndsShifted s (if c then .next t else .next s) :=
  endsShifted_ite_same fun _ => shifts_quiet hbatch hsweep

theorem endsShifted_atCommandRegister {f : State → State} (hf : Shifting f) : EndsShifted s (atCommandRegister f s) :=
  endsShifted_ite_same fun _ => (hf s).thenQuiet rfl rfl

/-! ### The Resolve Port (03, 04 R71) -/

theorem endsShifted_execResolve (r : ReqId) (a : Address) (d : Dir) (c : Bool) :
    EndsShifted s (execResolve r a d c s) :=
  endsShifted_ite_same fun _ => ((shifts_resolveRequest _ s).trans (shifts_deliver _ _ _)).settled s

theorem endsShifted_execRelease (r : ReqId) (t : Tag) : EndsShifted s (execRelease r t s) :=
  endsShifted_ite
    (fun _ => endsShifted_ite (fun _ => endsShifted_next (shifts_deliver _ _ _))
      (endsShifted_next (((shifts_releaseRequest r t s).trans (shifts_deliver _ _ _)).settled s)))
    endsShifted_same

theorem endsShifted_execSlotReset (r : ReqId) : EndsShifted s (execSlotReset r s) :=
  endsShifted_ite
    (fun _ => endsShifted_ite (fun _ => endsShifted_next (shifts_deliver _ _ _))
      (endsShifted_next ((shifts_slotResetRequest r s).settled s)))
    endsShifted_same

theorem endsShifted_execRspTaken : EndsShifted s (execRspTaken s) := by
  unfold execRspTaken
  split
  · exact endsShifted_next (shifts_quiet rfl rfl)
  · exact endsShifted_same
  · exact endsShifted_same

/-! ### Clearings and deadlines (02 R32, R38, R39, 05 R93, 07 R132) -/

theorem endsShifted_execRequesterClearingFree (r : ReqId) : EndsShifted s (execRequesterClearingFree r s) := by
  refine endsShifted_ite (fun _ => ?_) endsShifted_same
  split
  · exact endsShifted_next ((shifts_freeClaim _ s).settled s)
  · exact endsShifted_same

theorem endsShifted_execRequesterClearingCompletion (r : ReqId) :
    EndsShifted s (execRequesterClearingCompletion r s) := by
  unfold execRequesterClearingCompletion
  split
  · exact endsShifted_next (shifts_quiet rfl rfl)
  · exact endsShifted_same

theorem endsShifted_execDiscardDeadlineExpiry (k : SlotIx) : EndsShifted s (execDiscardDeadlineExpiry k s) := by
  unfold execDiscardDeadlineExpiry
  split
  · exact endsShifted_ite_same fun _ =>
      (((shifts_dropSlot k s).trans (shifts_report _ _)).trans (shifts_fault _ _ _)).settled s
  · exact endsShifted_same
  · exact endsShifted_same

theorem endsShifted_execDrainExpiry (p : Fin 16) : EndsShifted s (execDrainExpiry p s) := by
  unfold execDrainExpiry
  split
  · exact endsShifted_ite_same fun _ => ((shifts_endDrain _ s).trans (shifts_report _ _)).settled s
  · exact endsShifted_same

/-! ### The commit (06 R112 to R121) -/

theorem endsShifted_execCommitValidation : EndsShifted s (execCommitValidation s) := by
  unfold execCommitValidation
  split
  · rename_i g n ops copies k tally hs
    split
    · rename_i op hop
      have hread := shifts_readEntry .commit (opEntry op) s
      have hstands : (s.readEntry .commit (opEntry op)).batch.staging = .committing g n ops copies k tally := by
        rw [State.readEntry_batch, hs]
      obtain ⟨hleft, _⟩ := List.getElem?_eq_some_iff.1 hop
      dsimp only
      split
      · exact endsShifted_next ((hread.trans (shifts_rejectCommit _ _ _ _ _ _)).settled s)
      · have hpasses (c : ValidatedCopy) :=
          shifts_putStaging_committing (.validated c hstands hleft) (by rw [hstands]; rfl)
        exact endsShifted_next ((hread.trans (hpasses _)).settled s)
    · exact endsShifted_same
  · exact endsShifted_same

theorem endsShifted_execCommitApplication : EndsShifted s (execCommitApplication s) := by
  unfold execCommitApplication
  split
  · rename_i g n ops copies k tally hs
    refine endsShifted_ite (fun hvalid => ?_) endsShifted_same
    split
    · rename_i op c hop _
      have hstands : (s.applyOp op c).1.batch.staging = .committing g n ops copies k tally := by
        rw [State.applyOp_batch, hs]
      obtain ⟨hleft, _⟩ := List.getElem?_eq_some_iff.1 hop
      exact endsShifted_next ((shifts_applyOp op c s).trans
        (shifts_putStaging_committing (.applied _ hstands hvalid hleft) (by rw [hstands]; rfl)))
    · exact endsShifted_same
  · exact endsShifted_same

theorem endsShifted_execCommitCompletion : EndsShifted s (execCommitCompletion s) := by
  unfold execCommitCompletion
  split
  · rename_i g n ops copies k tally hs
    refine endsShifted_ite_same fun ⟨_, hall⟩ => ?_
    rw [hall] at hs
    have hclosed : Shifts s (s.closeCommit (.ok g ops.length tally)) := shifts_uncommitted (.completed hs) rfl rfl
    exact (hclosed.trans (shifts_evaluateWaiting _)).settled s
  · exact endsShifted_same

/-! ### Walks (09 R153 to R156) -/

theorem endsShifted_execSweepStep : EndsShifted s (execSweepStep s) := by
  unfold execSweepStep
  split
  · exact endsShifted_same
  · rename_i w hw
    split
    · rename_i d hkind
      exact endsShifted_ite_same fun hstep => shifts_sweepStepOf hw (stepping_not_suspended hstep) hkind
    · exact endsShifted_same

theorem endsShifted_execScrubStep : EndsShifted s (execScrubStep s) := by
  unfold execScrubStep
  split
  · exact endsShifted_same
  · rename_i w hw
    split
    · exact endsShifted_ite_same fun hstep => shifts_scrubStepOf hw (stepping_not_suspended hstep)
    · exact endsShifted_same

theorem endsShifted_execSweepRetake : EndsShifted s (execSweepRetake s) := by
  unfold execSweepRetake
  split
  · exact endsShifted_ite_same fun _ => shifts_retake s
  · exact endsShifted_same

/-! ### Resets and the register window (11, 12 R187) -/

theorem endsShifted_execPowerOn (b : Board) : EndsShifted s (execPowerOn b s) := by
  have hboard : Shifts s { s with board := b, resetLow := false, loads := 0 } := shifts_quiet rfl rfl
  have hnone : NotOk .none := nofun
  exact endsShifted_next (hboard.trans (shifts_fullReset hnone _ _))

theorem endsShifted_execResetAssert : EndsShifted s (execResetAssert s) := by
  have hlow : Shifts s { s with resetLow := true, loads := s.loads + 1 } := shifts_quiet rfl rfl
  exact endsShifted_ite (fun _ => endsShifted_same)
    (endsShifted_next (hlow.trans (shifts_fullReset (notOk_abandonedResult s.batch.staging) _ _)))

theorem shifts_writeSetting (f : Settings → Settings) (s : State) : Shifts s (s.writeSetting f) := by
  unfold State.writeSetting
  split
  · exact .refl
  · exact shifts_quiet rfl rfl

theorem shifts_storeByte (a : Nat) (v : Byte) (s : State) : Shifts s (s.storeByte a v) := by
  unfold State.storeByte
  split
  · exact shifts_quiet rfl rfl
  · split
    · exact shifts_writeSetting _ s
    · split
      · exact shifts_writeSetting _ s
      · split
        · exact shifts_writeSetting _ s
        · split
          · exact shifts_quiet rfl rfl
          · exact .refl

theorem shifts_byteTaken (s : State) : Shifts s s.byteTaken := shifts_quiet rfl rfl

theorem shifts_writeNext (v : Byte) (s : State) : Shifts s (s.writeNext v) := by
  unfold State.writeNext
  split
  · exact shifting_dispatch v s
  · exact (shifts_storeByte _ v s).trans (shifts_byteTaken _)

theorem endsShifted_writeSetting {c : Prop} [Decidable c] (f : Settings → Settings) :
    EndsShifted s (if c then .next (s.writeSetting f).byteTaken else .next s) :=
  endsShifted_ite_same fun _ => (shifts_writeSetting f s).trans (shifts_byteTaken _)

/-! ### Every row (95) -/

theorem endsShifted_exec (c : Instr) : EndsShifted s (exec c s) := by
  cases c with
  | resolve r a d c => exact endsShifted_execResolve r a d c
  | release r t => exact endsShifted_execRelease r t
  | slotReset r => exact endsShifted_execSlotReset r
  | malformedRequest k => exact endsShifted_quiet rfl rfl
  | rspTaken => exact endsShifted_execRspTaken
  | requesterClearingFree r => exact endsShifted_execRequesterClearingFree r
  | requesterClearingCompletion r => exact endsShifted_execRequesterClearingCompletion r
  | quarantineDeadlineExpiry r => exact endsShifted_quiet rfl rfl
  | discardDeadlineExpiry k => exact endsShifted_execDiscardDeadlineExpiry k
  | drainExpiry p => exact endsShifted_execDrainExpiry p
  | commitValidation => exact endsShifted_execCommitValidation
  | commitApplication => exact endsShifted_execCommitApplication
  | commitCompletion => exact endsShifted_execCommitCompletion
  | sweepStep => exact endsShifted_execSweepStep
  | scrubStep => exact endsShifted_execScrubStep
  | sweepRetake => exact endsShifted_execSweepRetake
  | imageLoadDone => exact endsShifted_ite_same fun _ => shifts_imageLoadDone s
  | preloadReloadDone => exact endsShifted_ite_same fun _ => shifts_preloadReloadDone s
  | powerOn b => exact endsShifted_execPowerOn b
  | resetAssert => exact endsShifted_execResetAssert
  | resetRelease => exact endsShifted_next (shifts_quiet rfl rfl)
  | batchOpen => exact endsShifted_atCommandRegister (shifting_interrupting shifts_openTests)
  | batchLoad => exact endsShifted_atCommandRegister (shifting_batchCommand shifts_loadTests)
  | batchCommit => exact endsShifted_atCommandRegister (shifting_batchCommand shifts_commitTests)
  | batchDiscard => exact endsShifted_atCommandRegister (shifting_batchCommand shifts_discardTests)
  | freezeGroup => exact endsShifted_atCommandRegister (shifting_interrupting shifts_freezeGroupTests)
  | thawGroup => exact endsShifted_atCommandRegister (shifting_interrupting shifts_thawGroupTests)
  | freezeAll => exact endsShifted_atCommandRegister (shifting_interrupting shifts_freezeAllTests)
  | freezeRange => exact endsShifted_atCommandRegister (shifting_interrupting shifts_freezeRangeTests)
  | domainSweep => exact endsShifted_atCommandRegister (shifting_interrupting shifts_domainSweepTests)
  | scrub => exact endsShifted_atCommandRegister (shifting_interrupting fun s => shifts_startWalk s .scrub)
  | sweepSuspend => exact endsShifted_atCommandRegister (shifting_interrupting shifts_suspendTests)
  | sweepResume => exact endsShifted_atCommandRegister (shifting_interrupting shifts_resumeTests)
  | sweepCancel => exact endsShifted_atCommandRegister (shifting_interrupting shifts_cancelTests)
  | forceDrain => exact endsShifted_atCommandRegister (shifting_interrupting shifts_forceDrainTests)
  | domainSet => exact endsShifted_atCommandRegister (shifting_interrupting shifts_domainSetTests)
  | requesterSet => exact endsShifted_atCommandRegister (shifting_interrupting shifts_requesterSetTests)
  | requesterReset => exact endsShifted_atCommandRegister (shifting_interrupting shifts_requesterResetTests)
  | clearErrors => exact endsShifted_atCommandRegister (shifting_interrupting fun _ => shifts_quiet rfl rfl)
  | tableReset => exact endsShifted_atCommandRegister (shifting_interrupting shifts_acceptTableReset)
  | readEntry => exact endsShifted_atCommandRegister (shifting_query shifts_readEntryAnswer)
  | readClaim => exact endsShifted_atCommandRegister (shifting_query_map _ _)
  | readPending => exact endsShifted_atCommandRegister (shifting_query_map _ _)
  | readDrain => exact endsShifted_atCommandRegister (shifting_query_map _ _)
  | readRequester => exact endsShifted_atCommandRegister (shifting_query_map _ _)
  | readSweepResult => exact endsShifted_atCommandRegister (shifting_query_some _)
  | readCommitResult => exact endsShifted_atCommandRegister (shifting_query_some _)
  | fullReset => exact endsShifted_ite_same fun _ => shifts_fullResetCommand s
  | undefinedCommandCode c =>
    exact endsShifted_ite (fun _ => endsShifted_same) (endsShifted_atCommandRegister shifting_undefinedCommand)
  | eventRegisterRead b => exact endsShifted_quiet rfl rfl
  | alertAssertedClear v => exact endsShifted_quiet rfl rfl
  | overrideClear v => exact endsShifted_quiet rfl rfl
  | overrideSet v => exact endsShifted_quiet rfl rfl
  | singleByteSettingWrite v => exact endsShifted_writeSetting _
  | settingLowerByteWrite v => exact endsShifted_writeSetting _
  | settingHigherByteWrite v => exact endsShifted_writeSetting _
  | multiByteCaptureRead b => exact endsShifted_quiet rfl rfl
  | pointerSet b v => exact endsShifted_quiet rfl rfl
  | registerWrite b v => exact endsShifted_ite_same fun _ => shifts_writeNext v s
  | storageDamage i e => exact endsShifted_next (shifts_quiet rfl rfl)
  | transactionEnd x => exact endsShifted_quiet rfl rfl

end Rows

/-! ### Every step and the laws -/

theorem shifts_step {s t : State} (h : step s = .next t) : Shifts s t := by
  cases hp : s.pending with
  | cons c rest =>
    have hfront : Shifts s { s with pending := rest } := shifts_quiet rfl rfl
    have hexec : exec c { s with pending := rest } = .next t := by
      rw [← h]
      unfold step
      rw [hp]
    exact hfront.trans (endsShifted_exec c t hexec)
  | nil =>
    cases hdue : s.dueEvent with
    | some c =>
      have hfree : Shifts s { s with free := s.free + 1 } := shifts_quiet rfl rfl
      rw [step_of_expiry hp hdue] at h
      exact hfree.trans (endsShifted_exec c t h)
    | none =>
      rw [step_of_no_expiry hp hdue] at h
      cases h
      exact shifts_tick s

/-- Settles O55: every shift keeps the Staging Buffer's laws, and a step is a chain of shifts. -/
theorem stagingLawHolds : Obligations.StagingLawHolds :=
  fun _ _ hs hstep => kept_of_shifts stagingLaw_of_shift (shifts_step hstep) hs

/-- Settles O54: every shift keeps the walk's laws, and a step is a chain of shifts. -/
theorem walkLawHolds : Obligations.WalkLawHolds :=
  fun _ _ hs hstep => kept_of_shifts walkLaw_of_shift (shifts_step hstep) hs

end Sys2Proof.Machine
end

section
/-! SUPPORT. The retake of a waiting entry, FORCE_DRAIN and CLEAR_ERRORS (07 R128, R133, 09 R154, 10 R166). -/

namespace Sys2Proof.Machine

/-! ### The retake (09 R154) -/

section Waiting

variable {w : Walk} {t : State} (hw : Walking w t)

include hw

theorem waitingWalk_of_waiting (hstate : w.state = .waitingDrain) : t.waitingWalk = some w := by
  unfold State.waitingWalk
  rw [hw]
  exact if_pos hstate

theorem waitingWalk_of_not_waiting (hstate : w.state ≠ .waitingDrain) : t.waitingWalk = none := by
  unfold State.waitingWalk
  rw [hw]
  exact if_neg hstate

/-- The waiting engine becomes RUNNING and takes its entry. -/
theorem retake_of_waiting {d : Domain} (hstate : w.state = .waitingDrain) (hkind : w.kind = .domainSweep d) :
    t.retake = t.sweepTake { w with state := .running } d := by
  unfold State.retake
  simp only [hw, hstate, hkind]

/-- A waiting sweep retakes its entry exactly in the events of R154. -/
theorem settle_of_waiting (hstate : w.state = .waitingDrain) (s : State) :
    settle s t = if retakeDue w s t then t.retake else t := by
  unfold settle
  rw [waitingWalk_of_waiting hw hstate]

theorem execSweepRetake_of_waiting (hstate : w.state = .waitingDrain) (hstands : t.retakeStands w = true) :
    execSweepRetake t = .next t.retake := by
  unfold execSweepRetake
  rw [waitingWalk_of_waiting hw hstate]
  exact if_pos hstands

end Waiting

/-- A drain item was removed, or the waiting entry's claim count came to 0, or the waiting entry was poisoned. -/
theorem retakeDue_iff (w : Walk) (s t : State) : retakeDue w s t = true ↔ t.drain.length < s.drain.length
    ∨ ((s.entry w.cursor).claimCount ≠ 0 ∧ (t.entry w.cursor).claimCount = 0)
    ∨ ((s.entry w.cursor).contents ≠ .poisoned ∧ (t.entry w.cursor).contents = .poisoned) := by
  simp only [retakeDue, Bool.or_eq_true, Bool.and_eq_true, decide_eq_true_eq, Fin.val_ne_zero_iff, Fin.val_eq_zero_iff,
    or_assoc]

theorem retakeStands_iff (w : Walk) (t : State) : t.retakeStands w = true ↔ t.drain.length < 16
    ∨ (t.entry w.cursor).claimCount = 0 ∨ (t.entry w.cursor).contents = .poisoned := by
  simp only [State.retakeStands, Bool.or_eq_true, decide_eq_true_eq, Fin.val_eq_zero_iff, or_assoc]

/-- Settles O30: the three events are those `settle` looks for, and the row looks for the three conditions. -/
theorem waitingSweepRetakes : Obligations.WaitingSweepRetakes := by
  intro w d s t hw hkind again e happened
  refine ⟨fun hstate hhappened => ?retakes, fun hnot => ?rests, fun hstate hstands => ?row⟩
  case retakes =>
    rw [settle_of_waiting hw hstate, if_pos ((retakeDue_iff w s t).2 hhappened), retake_of_waiting hw hstate hkind]
  case rests =>
    by_cases hstate : w.state = .waitingDrain
    · have hidle : ¬ happened := hnot.resolve_left (not_not.2 hstate)
      rw [settle_of_waiting hw hstate, if_neg (mt (retakeDue_iff w s t).1 hidle)]
    · exact settle_of_not_waiting (waitingWalk_of_not_waiting hw hstate)
  case row =>
    have hrow : exec .sweepRetake t = execSweepRetake t := rfl
    rw [hrow, execSweepRetake_of_waiting hw hstate ((retakeStands_iff w t).2 hstands),
      retake_of_waiting hw hstate hkind]

/-! ### FORCE_DRAIN and CLEAR_ERRORS (07 R133, 10 R166) -/

theorem isRevoking_iff {c : Contents} : isRevoking c = true ↔ ∃ p, c = .revoking p := by
  cases c <;> simp [isRevoking]

theorem forceDrainTests_out_of_range {s : State} (h : 4095 < operandPair s 0 1) :
    s.forceDrainTests = (s, .refused .badOperand) := by
  unfold State.forceDrainTests
  rw [indexBelow_of_ge h]

/-- Within the range the test goes by the state as stored (log 25). -/
theorem forceDrainTests_in_range {s : State} {i : EntryIx} (hi : i.val = operandPair s 0 1) :
    s.forceDrainTests =
      if isRevoking (s.entry i).contents then (settle s (State.raise .drainDone (s.endDrain i)), .done)
      else (s, .refused .notRevoking) := by
  unfold State.forceDrainTests
  rw [indexBelow_of_eq i hi]

/-- Settles O43: both commands pass the gate; FORCE_DRAIN goes by its operand and by the state as stored. -/
theorem forcesDrainAndClearsErrors : Obligations.ForcesDrainAndClearsErrors := by
  intro s hc hb index
  have hforce : exec .forceDrain s = _ := atCommandRegister_interrupting hc hb State.forceDrainTests
  have hclear : exec .clearErrors s = _ := atCommandRegister_interrupting hc hb State.clearErrorsTests
  rw [hforce, hclear]
  refine ⟨fun h => ?range, fun i hi hnot => ?standing, fun i p hi hp => ?forced, rfl⟩
  case range => rw [forceDrainTests_out_of_range h]
  case standing =>
    rw [forceDrainTests_in_range hi, if_neg (mt isRevoking_iff.1 (not_exists.2 hnot))]
  case forced =>
    rw [forceDrainTests_in_range hi, if_pos (isRevoking_iff.2 ⟨p, hp⟩)]
    rfl

end Sys2Proof.Machine
end

section
/-! SUPPORT. The law of deadlines and the Drain List's law taken apart, and the operations that touch neither of them
(07 R125, R126, log 2). -/

namespace Sys2Proof.Machine

/-! ### Deadlines (log 2) -/

/-- Time stands; each deadline that stands afterwards stood before or lies at or after the present time. -/
structure Punctual (s t : State) : Prop where
  now : t.now = s.now := by rfl
  requesters : ∀ r d, (t.requester r).deadline = some d → (s.requester r).deadline = some d ∨ s.now ≤ d := by
    exact fun _ _ => .inl
  slots : ∀ (k : SlotIx) d, slotDeadline t.queue[k] = some d → slotDeadline s.queue[k] = some d ∨ s.now ≤ d := by
    exact fun _ _ => .inl
  items : ∀ x ∈ t.drain, x ∈ s.drain ∨ ∀ d, x.deadline = some d → s.now ≤ d := by exact fun _ => .inl
  length : s.drain.length ≤ 16 → t.drain.length ≤ 16 := by exact id

theorem deadlineLaw_of_punctual {s t : State} (h : Punctual s t) (hs : DeadlineLaw s) : DeadlineLaw t := by
  obtain ⟨hrequesters, hslots, hitems, hlength⟩ := hs
  unfold DeadlineLaw
  rw [h.now]
  refine ⟨fun r d hd => ?_, fun k d hd => ?_, fun x hx d hd => ?_, h.length hlength⟩
  · exact (h.requesters r d hd).elim (hrequesters r d) id
  · exact (h.slots k d hd).elim (hslots k d) id
  · exact (h.items x hx).elim (fun hold => hitems x hold d hd) fun hnew => hnew d hd

/-! ### The Drain List (07 R125, R126) -/

/-- The entries the items name, oldest item first. -/
def State.drainEntries (s : State) : List EntryIx := s.drain.map (·.entry)

/-- An entry is REVOKING exactly while an item names it, no two items name one entry, and there are at most 16 items. -/
def DrainsMatch (s : State) : Prop :=
  (∀ i, isRevoking (s.entry i).contents = true ↔ i ∈ s.drainEntries) ∧ s.drainEntries.Nodup ∧ s.drain.length ≤ 16

/-- A part that is starting has no batch, no walk and no item (12 R187, R188). -/
def StartsBare (s : State) : Prop :=
  s.loader.phase ≠ .running → s.batch.staging = .idle ∧ s.sweep.walk = none ∧ s.drain = []

theorem drainLaw_iff (s : State) : DrainLaw s ↔ Canonical s ∧ CopiesLaw s ∧ DrainsMatch s ∧ StartsBare s := by
  unfold DrainLaw DrainsMatch StartsBare State.drainEntries
  simp only [List.mem_map, and_assoc]

theorem mem_drainEntries_removeDrain {i j : EntryIx} {l : DrainList} :
    j ∈ (removeDrain i l).map (·.entry) ↔ j ∈ l.map (·.entry) ∧ j ≠ i := by
  simp only [removeDrain, List.mem_map, List.mem_filter, bne_iff_ne]
  constructor
  · rintro ⟨x, ⟨hx, hne⟩, rfl⟩
    exact ⟨⟨x, hx, rfl⟩, hne⟩
  · rintro ⟨⟨x, hx, rfl⟩, hne⟩
    exact ⟨x, ⟨hx, hne⟩, rfl⟩

theorem mem_of_mem_removeDrain {i : EntryIx} {l : DrainList} {x : DrainItem} (h : x ∈ removeDrain i l) : x ∈ l :=
  List.mem_of_mem_filter h

theorem length_removeDrain_le (i : EntryIx) (l : DrainList) : (removeDrain i l).length ≤ l.length :=
  List.length_filter_le _ _

theorem drainsMatch_of_same {s t : State} (hs : DrainsMatch s)
    (hentry : ∀ i, isRevoking (t.entry i).contents = isRevoking (s.entry i).contents) (hdrain : t.drain = s.drain) :
    DrainsMatch t := by
  unfold DrainsMatch State.drainEntries at hs ⊢
  simp only [hentry, hdrain]
  exact hs

/-- An entry leaves REVOKING with its item, if it has one (07 R131 to R133, 01 R18). -/
theorem drainsMatch_of_closed {s t : State} (hs : DrainsMatch s) {i : EntryIx}
    (hself : isRevoking (t.entry i).contents = false)
    (hothers : ∀ j, j ≠ i → isRevoking (t.entry j).contents = isRevoking (s.entry j).contents)
    (hdrain : t.drain = removeDrain i s.drain) : DrainsMatch t := by
  obtain ⟨hmatch, hnodup, hlength⟩ := hs
  have hnamed (j : EntryIx) : j ∈ t.drainEntries ↔ j ∈ s.drainEntries ∧ j ≠ i := by
    unfold State.drainEntries
    rw [hdrain]
    exact mem_drainEntries_removeDrain
  refine ⟨fun j => ?_, ?_, ?_⟩
  · by_cases hj : j = i
    · rw [hnamed, hj, hself]
      exact iff_of_false Bool.false_ne_true fun h => h.2 rfl
    · rw [hnamed, hothers j hj, hmatch]
      exact (and_iff_left hj).symm
  · unfold State.drainEntries
    rw [hdrain]
    exact hnodup.sublist (List.Sublist.map _ List.filter_sublist)
  · rw [hdrain]
    exact (length_removeDrain_le i s.drain).trans hlength

/-- An entry that was not REVOKING becomes so, and an item naming it is appended (07 R127). -/
theorem drainsMatch_of_opened {s t : State} (hs : DrainsMatch s) {i : EntryIx} {x : Option Time}
    (hwas : isRevoking (s.entry i).contents = false) (hself : isRevoking (t.entry i).contents = true)
    (hothers : ∀ j, j ≠ i → isRevoking (t.entry j).contents = isRevoking (s.entry j).contents)
    (hdrain : t.drain = s.drain ++ [⟨i, x⟩]) (hroom : s.drain.length < 16) : DrainsMatch t := by
  obtain ⟨hmatch, hnodup, _⟩ := hs
  have hentries : t.drainEntries = s.drainEntries ++ [i] := by
    unfold State.drainEntries
    rw [hdrain, List.map_append]
    rfl
  have hnew : i ∉ s.drainEntries := fun hi => by
    rw [(hmatch i).2 hi] at hwas
    contradiction
  refine ⟨fun j => ?_, ?_, ?_⟩
  · rw [hentries, List.mem_append, List.mem_singleton]
    by_cases hj : j = i
    · rw [hj, hself]
      exact iff_of_true rfl (.inr rfl)
    · rw [hothers j hj, hmatch]
      exact (or_iff_left hj).symm
  · rw [hentries]
    exact hnodup.append (List.nodup_singleton i) (List.disjoint_singleton.2 hnew)
  · rw [hdrain, List.length_append]
    exact hroom

/-! ### What a commit has validated (06 R112, R117) -/

/-- No commit has validated an op. -/
def Unvalidated (x : Staging) : Prop := ∀ g n ops copies k t, x = .committing g n ops copies k t → copies = []

theorem unvalidated_of_not_committing {x : Staging} (h : committing x = false) : Unvalidated x := by
  rintro g n ops copies k t rfl
  contradiction

theorem copiesLaw_of_unvalidated {s : State} (h : Unvalidated s.batch.staging) : CopiesLaw s := by
  intro g n ops copies k t hs j op c _ _ hc
  rw [h g n ops copies k t hs] at hc
  contradiction

/-- The commit goes on, and every entry that was not REVOKING stands or has been poisoned. -/
theorem copiesLaw_of_kept {s t : State} (hs : CopiesLaw s) (hstaging : t.batch.staging = s.batch.staging)
    (hentry : ∀ i, isRevoking (s.entry i).contents = false →
      (t.entry i).contents = (s.entry i).contents ∨ (t.entry i).contents = .poisoned) : CopiesLaw t := by
  intro g n ops copies k x ht j op c hkj hop hc
  obtain ⟨hcopy, hstands⟩ := hs g n ops copies k x (hstaging ▸ ht) j op c hkj hop hc
  have hwas : isRevoking (s.entry (opEntry op)).contents = false := by
    rcases hstands with h | h
    · rw [h, hcopy]
    · rw [h]
      rfl
  refine ⟨hcopy, (hentry (opEntry op) hwas).elim (fun hsame => ?_) .inr⟩
  rw [hsame]
  exact hstands

/-- No commit stands while a walk takes steps or waits (09 R149). -/
theorem not_committing_of_walking {s : State} (hs : WalkLaw s) {w : Walk} (hw : s.sweep.walk = some w)
    (hstate : w.state ≠ .suspended) : committing s.batch.staging = false := by
  obtain ⟨hwalking, _⟩ := hs
  obtain ⟨hsuspended, _⟩ := hwalking w hw
  exact Bool.eq_false_iff.2 fun hcommits => hstate (hsuspended hcommits)

/-! ### Operations that keep both laws -/

/-- The operation is a chain of shifts and keeps the law of deadlines and, where the laws of Staging Buffer and walk hold,
the Drain List's law. -/
structure KeepsDrains (s t : State) : Prop where
  shifts : Shifts s t
  deadlines : DeadlineLaw s → DeadlineLaw t
  drains : StagingLaw s → WalkLaw s → DrainLaw s → DrainLaw t

theorem KeepsDrains.refl (s : State) : KeepsDrains s s := ⟨.refl, id, fun _ _ => id⟩

/-- The laws of Staging Buffer and walk hold in between, since every shift keeps them. -/
theorem KeepsDrains.trans {s t u : State} (hst : KeepsDrains s t) (htu : KeepsDrains t u) : KeepsDrains s u where
  shifts := hst.shifts.trans htu.shifts
  deadlines := htu.deadlines ∘ hst.deadlines
  drains hstaging hwalk hdrain :=
    htu.drains (kept_of_shifts stagingLaw_of_shift hst.shifts hstaging)
      (kept_of_shifts walkLaw_of_shift hst.shifts hwalk) (hst.drains hstaging hwalk hdrain)

/-- The table stays canonical, and every entry keeps its contents. -/
def KeepsContents (s t : State) : Prop :=
  Canonical s → Canonical t ∧ ∀ i, (t.entry i).contents = (s.entry i).contents

theorem keepsContents_putEntry {s : State} {i : EntryIx} {e : GrantEntry} (he : e.contents = (s.entry i).contents) :
    KeepsContents s (s.putEntry i e) := by
  refine fun hs => ⟨canonical_putEntry hs i e, fun j => ?_⟩
  by_cases hj : j = i
  · rw [hj, State.entry_putEntry_self hs, he]
  · rw [State.entry_putEntry_ne s e hj]

/-- Contents and Drain List stand, no deadline is set in the past, no op is validated, and a part that is starting begins
neither batch nor walk. -/
structure Aside (s t : State) : Prop where
  now : t.now = s.now := by rfl
  requesters : ∀ r d, (t.requester r).deadline = some d → (s.requester r).deadline = some d ∨ s.now ≤ d := by
    exact fun _ _ => .inl
  slots : ∀ (k : SlotIx) d, slotDeadline t.queue[k] = some d → slotDeadline s.queue[k] = some d ∨ s.now ≤ d := by
    exact fun _ _ => .inl
  drain : t.drain = s.drain := by rfl
  contents : KeepsContents s t := by exact fun hs => ⟨hs, fun _ => rfl⟩
  staging : t.batch.staging = s.batch.staging
    ∨ Unvalidated t.batch.staging ∧ (s.loader.phase = .running ∨ t.batch.staging = .idle) := by exact .inl rfl
  phase : t.loader.phase = s.loader.phase ∨ t.loader.phase = .running := by exact .inl rfl
  walk : s.loader.phase ≠ .running → s.sweep.walk = none → t.sweep.walk = none := by exact fun _ => id

theorem Aside.punctual {s t : State} (h : Aside s t) : Punctual s t where
  now := h.now
  requesters := h.requesters
  slots := h.slots
  items x hx := .inl (h.drain ▸ hx)
  length := by rw [h.drain]; exact id

theorem drainLaw_of_aside {s t : State} (h : Aside s t) (hs : DrainLaw s) : DrainLaw t := by
  obtain ⟨hcanonical, hcopies, hmatch, hbare⟩ := (drainLaw_iff s).1 hs
  obtain ⟨hcanonical', hcontents⟩ := h.contents hcanonical
  refine (drainLaw_iff t).2 ⟨hcanonical', ?_, drainsMatch_of_same hmatch (fun i => by rw [hcontents]) h.drain,
    fun hstarting => ?_⟩
  · rcases h.staging with hsame | ⟨hnone, _⟩
    · exact copiesLaw_of_kept hcopies hsame fun i _ => .inl (hcontents i)
    · exact copiesLaw_of_unvalidated hnone
  · have hwas : s.loader.phase ≠ .running := fun hrunning =>
      hstarting (h.phase.elim (fun hsame => hsame.trans hrunning) id)
    obtain ⟨hidle, hwalk, hdrain⟩ := hbare hwas
    refine ⟨?_, h.walk hwas hwalk, h.drain.trans hdrain⟩
    rcases h.staging with hsame | ⟨_, hrunning | hidle'⟩
    · exact hsame.trans hidle
    · exact absurd hrunning hwas
    · exact hidle'

theorem keepsDrains_of_aside {s t : State} (hshifts : Shifts s t) (h : Aside s t) : KeepsDrains s t :=
  ⟨hshifts, deadlineLaw_of_punctual h.punctual, fun _ _ => drainLaw_of_aside h⟩

/-- An operation on other fields than those of the laws and of Staging Buffer and walk. -/
theorem keepsDrains_elsewhere {s t : State} (h : Aside s t := by exact {}) (hbatch : t.batch = s.batch := by rfl)
    (hsweep : t.sweep = s.sweep := by rfl) : KeepsDrains s t :=
  keepsDrains_of_aside (shifts_quiet hbatch hsweep) h

theorem keepsDrains_report (e : ErrorRecord) (s : State) : KeepsDrains s (s.report e) := keepsDrains_elsewhere

theorem keepsDrains_raise (k : EventKind) (s : State) : KeepsDrains s (s.raise k) := keepsDrains_elsewhere

theorem keepsDrains_setStatus (e : CommandEnd) (s : State) : KeepsDrains s (s.setStatus e) := keepsDrains_elsewhere

theorem keepsDrains_byteTaken (s : State) : KeepsDrains s s.byteTaken := keepsDrains_elsewhere

end Sys2Proof.Machine
end

section
/-! SUPPORT. The operations on requesters, slots, entries and claims, each as far as deadlines, Drain List and validated
copies go (01 R17, 02 R29, 05 R98, 07 R131 to R133). -/

namespace Sys2Proof.Machine

/-! ### Deadlines of requesters and slots (02 R30, 05 R83) -/

/-- One record is written, with the deadline it had, none, or one that has not passed. -/
theorem keepsDrains_putRequester {s : State} {r : ReqId} {q : Requester}
    (hq : ∀ d, q.deadline = some d → (s.requester r).deadline = some d ∨ s.now ≤ d) :
    KeepsDrains s (s.putRequester r q) := by
  refine keepsDrains_elsewhere { requesters := fun x d hd => ?_ }
  by_cases hx : x = r
  · have hself : (s.putRequester r q).requester x = q := hx ▸ set_get_self _ _ _
    rw [hself] at hd
    rw [hx]
    exact hq d hd
  · have hother : (s.putRequester r q).requester x = s.requester x := set_get_ne _ _ hx
    exact .inl (hother ▸ hd)

/-- One slot is written, with the deadline it had, none, or one that has not passed. -/
theorem keepsDrains_putSlot {s : State} {k : SlotIx} {x : Slot}
    (hx : ∀ d, slotDeadline x = some d → slotDeadline s.queue[k] = some d ∨ s.now ≤ d) :
    KeepsDrains s (s.putSlot k x) := by
  refine keepsDrains_elsewhere { slots := fun j d hd => ?_ }
  by_cases hj : j = k
  · have hself : (s.putSlot k x).queue[j] = x := hj ▸ set_get_self _ _ _
    rw [hself] at hd
    rw [hj]
    exact hx d hd
  · have hother : (s.putSlot k x).queue[j] = s.queue[j] := set_get_ne _ _ hj
    exact .inl (hother ▸ hd)

theorem keepsDrains_putSlot_empty (k : SlotIx) (s : State) : KeepsDrains s (s.putSlot k .empty) :=
  keepsDrains_putSlot nofun

theorem keepsDrains_putSlot_waiting (k : SlotIx) (q : Request) (i : EntryIx) (s : State) :
    KeepsDrains s (s.putSlot k (.waiting q i)) :=
  keepsDrains_putSlot nofun

theorem keepsDrains_putClaim (t : Tag) (c : ClaimRecord) (s : State) : KeepsDrains s (s.putClaim t c) :=
  keepsDrains_elsewhere

/-- A fault that quarantines sets a deadline ahead (02 R30, R31). -/
theorem keepsDrains_fault (r : ReqId) (k : FaultKind) (s : State) : KeepsDrains s (s.fault r k) := by
  have hreport := keepsDrains_report (.requesterFault r k) s
  by_cases hcounted : faultCounted s.settings (s.requester r) k = true
  · by_cases hthreshold : reachesThreshold s.settings (countedFaults (s.requester r).faults) = true
    · rw [fault_quarantines hcounted hthreshold]
      refine (hreport.trans (keepsDrains_putRequester fun d hd => .inr ?_)).trans (keepsDrains_report _ _)
      cases hd
      exact Nat.le_add_right _ _
    · rw [fault_counted hcounted hthreshold]
      exact hreport.trans (keepsDrains_putRequester fun _ => .inl)
  · rw [fault_uncounted hcounted]
    exact hreport

theorem keepsDrains_deliver (r : ReqId) (a : Response) (s : State) : KeepsDrains s (s.deliver r a) := by
  have hport : KeepsDrains s { s with port := .answered a } := keepsDrains_elsewhere
  unfold State.deliver
  dsimp only
  split
  · exact hport.trans (keepsDrains_fault r _ _)
  · exact hport

/-! ### An entry leaves REVOKING (01 R18, 07 R131 to R133) -/

/-- An entry becomes POISONED, or one that is REVOKING or named by an item leaves REVOKING, and its item is removed. -/
structure Closes (i : EntryIx) (s t : State) : Prop where
  slots : ∀ (k : SlotIx) d, slotDeadline t.queue[k] = some d → slotDeadline s.queue[k] = some d := by
    exact fun _ _ => id
  canonical : Canonical s → Canonical t
  self : Canonical s → isRevoking (t.entry i).contents = false
  others : ∀ j, j ≠ i → t.entry j = s.entry j
  drain : t.drain = removeDrain i s.drain := by rfl
  now : t.now = s.now := by rfl
  requesters : t.requesters = s.requesters := by rfl
  batch : t.batch = s.batch := by rfl
  sweep : t.sweep = s.sweep := by rfl
  loader : t.loader = s.loader := by rfl
  cause : (t.entry i).contents = .poisoned ∨ isRevoking (s.entry i).contents = true ∨ i ∈ s.drainEntries

theorem punctual_of_closes {i : EntryIx} {s t : State} (h : Closes i s t) : Punctual s t where
  now := h.now
  requesters r d hd := by
    unfold State.requester at hd ⊢
    rw [h.requesters] at hd
    exact .inl hd
  slots k d hd := .inl (h.slots k d hd)
  items x hx := .inl (mem_of_mem_removeDrain (h.drain ▸ hx))
  length hs := by
    rw [h.drain]
    exact (length_removeDrain_le i s.drain).trans hs

theorem drainLaw_of_closes {i : EntryIx} {s t : State} (h : Closes i s t) (hs : DrainLaw s) : DrainLaw t := by
  obtain ⟨hcanonical, hcopies, hmatch, hbare⟩ := (drainLaw_iff s).1 hs
  refine (drainLaw_iff t).2 ⟨h.canonical hcanonical, copiesLaw_of_kept hcopies (by rw [h.batch]) fun j hj => ?_,
    drainsMatch_of_closed hmatch (h.self hcanonical) (fun j hj => by rw [h.others j hj]) h.drain, fun hstarting => ?_⟩
  · by_cases hji : j = i
    · subst hji
      rcases h.cause with hpoisoned | hrevoking | hnamed
      · exact .inr hpoisoned
      · rw [hj] at hrevoking
        contradiction
      · obtain ⟨hiff, _⟩ := hmatch
        rw [(hiff j).2 hnamed] at hj
        contradiction
    · exact .inl (by rw [h.others j hji])
  · rw [h.loader] at hstarting
    obtain ⟨hidle, hwalk, hdrain⟩ := hbare hstarting
    rw [h.batch, h.sweep, h.drain, hdrain]
    exact ⟨hidle, hwalk, rfl⟩

theorem keepsDrains_of_closes {i : EntryIx} {s t : State} (h : Closes i s t) : KeepsDrains s t :=
  ⟨shifts_quiet h.batch h.sweep, deadlineLaw_of_punctual (punctual_of_closes h), fun _ _ => drainLaw_of_closes h⟩

/-- A failed read leaves the entry POISONED, without its item (01 R17, R18). -/
theorem closes_poison (f : Finder) (i : EntryIx) (s : State) : Closes i s (s.poison f i) where
  canonical h := canonical_poison h f i
  self _ := by rw [entry_poison]; rfl
  others _ hj := entry_poison_ne s f hj
  cause := .inl (by rw [entry_poison])

theorem keepsDrains_readEntry (f : Finder) (i : EntryIx) (s : State) : KeepsDrains s (s.readEntry f i) := by
  unfold State.readEntry
  split
  · exact keepsDrains_of_closes (closes_poison f i s)
  · exact .refl s

theorem closes_completeDrain {s : State} {i : EntryIx} (h : isRevoking (s.entry i).contents = true) :
    Closes i s (s.completeDrain i) where
  canonical hs := canonical_completeDrain hs i
  self hs := congrArg (fun e => isRevoking e.contents) (State.entry_putEntry_self hs i (replaceEntry (s.entry i) .vacant))
  others _ hj := State.entry_putEntry_ne s (replaceEntry (s.entry i) .vacant) hj
  cause := .inr (.inl h)

theorem closes_endDrain {s : State} {i : EntryIx}
    (h : isRevoking (s.entry i).contents = true ∨ i ∈ s.drainEntries) : Closes i s (s.endDrain i) where
  slots k d hd := by
    rw [endDrain_slot] at hd
    split at hd
    · contradiction
    · exact hd
  canonical hs := canonical_endDrain hs i
  self hs := by rw [endDrain_entry_self hs]; rfl
  others _ hj := endDrain_entry_ne s hj
  cause := .inr h

theorem keepsDrains_endDrain {s : State} {i : EntryIx}
    (h : isRevoking (s.entry i).contents = true ∨ i ∈ s.drainEntries) : KeepsDrains s (s.endDrain i) :=
  keepsDrains_of_closes (closes_endDrain h)

/-! ### Claims are freed and granted (04 R78, R80, 03 R58, 05 R98) -/

/-- The count falls, and with the last claim of a REVOKING entry its drain completes (04 R80). -/
theorem keepsDrains_lowerCount (i : EntryIx) (s : State) : KeepsDrains s (s.lowerCount i) := by
  unfold State.lowerCount
  dsimp only
  generalize hcount : { s.entry i with claimCount := lowered (s.entry i).claimCount s.free } = e
  have hcontents : e.contents = (s.entry i).contents := by rw [← hcount]
  have hfalls (n : Nat) : KeepsDrains s { s.putEntry i e with free := n } :=
    keepsDrains_elsewhere { contents := keepsContents_putEntry hcontents }
  split
  · rename_i hlast
    have hlisted : e ≠ clearedEntry := by
      rintro rfl
      rw [← hcontents] at hlast
      exact Bool.false_ne_true hlast.2
    have hrevoking : isRevoking ((s.putEntry i e).entry i).contents = true := by
      rw [State.entry_putEntry_listed s i hlisted, hcontents]
      exact hlast.2
    exact (hfalls _).trans (keepsDrains_of_closes (closes_completeDrain hrevoking))
  · exact hfalls _

theorem keepsDrains_freeClaim (t : Tag) (s : State) : KeepsDrains s (s.freeClaim t) := by
  have hput := keepsDrains_putClaim t .free s
  unfold State.freeClaim
  split
  · exact .refl s
  · exact hput
  · exact hput.trans (keepsDrains_lowerCount _ _)

theorem keepsDrains_dropSlot (k : SlotIx) (s : State) : KeepsDrains s (s.dropSlot k) := by
  have hput := keepsDrains_putSlot_empty k s
  unfold State.dropSlot
  split
  · exact hput.trans (keepsDrains_freeClaim _ _)
  · exact hput

theorem keepsDrains_acceptClearing (r : ReqId) (x : Clearing) (s : State) : KeepsDrains s (s.acceptClearing r x) := by
  rw [acceptClearing_eq]
  refine State.foldl_keeps (p := KeepsDrains s) (fun u k hu => ?_) _ (keepsDrains_putRequester nofun)
  by_cases hk : Owns r u k
  · rw [dropIfOwned_of_owns hk]
    exact hu.trans (keepsDrains_dropSlot k u)
  · rw [dropIfOwned_of_not_owns hk]
    exact hu

theorem keepsDrains_grantClaim (q : Request) (i : EntryIx) (t : Tag) (s : State) :
    KeepsDrains s (s.grantClaim q i t) := by
  have hput := keepsDrains_putClaim t (.active ⟨q.requester, i, (s.entry i).generation, q.dir⟩) s
  refine hput.trans (keepsDrains_elsewhere { contents := ?_ })
  exact keepsContents_putEntry (e := { s.entry i with claimCount := raised (s.entry i).claimCount s.free }) rfl

/-! ### The evaluation of a request (03 R52 to R60, 04 R71, 05 R89, R90) -/

theorem keepsDrains_entryTests (q : Request) (i : EntryIx) (s : State) : KeepsDrains s (s.entryTests q i).1 := by
  have hread := keepsDrains_readEntry .resolve i s
  rcases entryTests_cases q i s with ⟨hstate, _⟩ | ⟨t, _, hstate, _, _⟩
  · rwa [hstate]
  · rw [hstate]
    exact hread.trans (keepsDrains_grantClaim q i t _)

theorem keepsDrains_evaluate (q : Request) (i : EntryIx) (s : State) : KeepsDrains s (s.evaluate q i).1 := by
  unfold State.evaluate
  split
  · exact .refl s
  · exact keepsDrains_entryTests q i s

/-- An answer that is stored has its discard deadline ahead (05 R83, R90). -/
theorem slotDeadline_slotAfter {q : Request} {i : EntryIx} {a : Response} {discard d : Time}
    (h : slotDeadline (slotAfter q i a discard) = some d) : d = discard := by
  unfold slotAfter at h
  split at h
  · contradiction
  · exact (Option.some.inj h).symm

theorem keepsDrains_evaluateSlot (k : SlotIx) (s : State) : KeepsDrains s (s.evaluateSlot k) := by
  cases hw : isWaiting s.queue[k] with
  | false =>
    rw [evaluateSlot_of_not_waiting hw]
    exact .refl s
  | true =>
    obtain ⟨q, i, hk⟩ := eq_waiting_of_isWaiting hw
    rw [evaluateSlot_of_waiting hk, ← State.evaluate_queue q i s, ← State.evaluate_now q i s]
    refine (keepsDrains_evaluate q i s).trans (keepsDrains_putSlot fun d hd => .inr ?_)
    rw [slotDeadline_slotAfter hd]
    exact Nat.le_add_right _ _

theorem keepsDrains_evaluateWaiting (s : State) : KeepsDrains s s.evaluateWaiting := by
  unfold State.evaluateWaiting
  exact State.foldl_keeps (p := KeepsDrains s) (fun u k hu => hu.trans (keepsDrains_evaluateSlot k u)) _ (.refl s)

theorem keepsDrains_storeRequest (q : Request) (i : EntryIx) (s : State) : KeepsDrains s (s.storeRequest q i).1 := by
  unfold State.storeRequest
  split
  · exact .refl s
  · split
    · exact keepsDrains_putSlot_waiting _ q i s
    · exact .refl s

theorem keepsDrains_resolveInside (q : Request) (s : State) : KeepsDrains s (s.resolveInside q).1 := by
  unfold State.resolveInside
  split
  · split
    · exact keepsDrains_putSlot_empty _ s
    · exact keepsDrains_entryTests q _ s
  · split
    · exact keepsDrains_storeRequest q _ s
    · exact keepsDrains_entryTests q _ s

theorem keepsDrains_resolveRequest (q : Request) (s : State) : KeepsDrains s (s.resolveRequest q).1 := by
  unfold State.resolveRequest
  split
  · exact .refl s
  · split
    · exact .refl s
    · split
      · exact keepsDrains_resolveInside q s
      · exact .refl s

theorem keepsDrains_releaseRequest (r : ReqId) (t : Tag) (s : State) : KeepsDrains s (s.releaseRequest r t).1 := by
  unfold State.releaseRequest
  split
  · exact .refl s
  · split
    · exact keepsDrains_freeClaim t s
    · exact .refl s
  · split
    · split
      · exact (keepsDrains_putSlot_empty _ s).trans (keepsDrains_freeClaim t _)
      · exact keepsDrains_freeClaim t s
    · exact .refl s

theorem keepsDrains_slotResetRequest (r : ReqId) (s : State) : KeepsDrains s (s.slotResetRequest r) := by
  have hport {u : State} (h : KeepsDrains s u) : KeepsDrains s { u with port := .holding r } :=
    h.trans keepsDrains_elsewhere
  by_cases hclearing : (s.requester r).clearing = none
  · rw [slotResetRequest_accepts hclearing]
    exact hport (keepsDrains_acceptClearing r .toDefaults s)
  · rw [slotResetRequest_joins hclearing]
    exact hport (keepsDrains_putRequester fun _ => .inl)

end Sys2Proof.Machine
end

section
/-! SUPPORT. The Sweep Engine's steps, the end of an event and the commit, as far as deadlines, Drain List and validated
copies go (06 R110 to R121, 07 R127, 09 R152 to R161). -/

namespace Sys2Proof.Machine

/-! ### The walk alone (09 R158, R161) -/

theorem advance_live (w : Walk) (n : Nat) (s : State) : (s.advance w n).requesters.live = s.requesters.live := by
  unfold State.advance
  dsimp only
  split
  · exact endWalk_live w .complete _
  · split
    · exact endWalk_live w .cancelled _
    · rfl
    · rfl

theorem lackItem_live (w : Walk) (s : State) : (s.lackItem w).requesters.live = s.requesters.live := by
  unfold State.lackItem
  split
  · exact endWalk_live w .cancelled s
  · rfl
  · rfl

/-- An operation on the walk, the domains and the errors, that starts no walk while the part is starting. -/
theorem keepsDrains_of_walk {s t : State} (hshifts : Shifts s t) (hlive : t.requesters.live = s.requesters.live)
    (hshape : ∃ x2 x8 x9, t = { s with requesters := x2, sweep := x8, errors := x9 })
    (hwalk : s.loader.phase ≠ .running → s.sweep.walk = none → t.sweep.walk = none) : KeepsDrains s t := by
  obtain ⟨_, _, _, rfl⟩ := hshape
  refine keepsDrains_of_aside hshifts { walk := hwalk, requesters := fun r d hd => .inl ?_ }
  unfold State.requester at hd ⊢
  rwa [hlive] at hd

theorem keepsDrains_endWalk (w : Walk) {x : WalkEnd} (hx : x ≠ .inProgress) (s : State) :
    KeepsDrains s (s.endWalk w x) :=
  keepsDrains_of_walk (shifts_endWalk w hx s) (endWalk_live w x s) (State.endWalk_shape w x s) fun _ _ => rfl

theorem keepsDrains_cancelled (w : Walk) (s : State) : KeepsDrains s (s.endWalk w .cancelled) :=
  keepsDrains_endWalk w WalkEnd.noConfusion s

theorem keepsDrains_updateCounts (f : SweepCounts → SweepCounts) (s : State) :
    KeepsDrains s (s.updateReport (updateCounts f)) :=
  keepsDrains_of_aside (shifts_updateCounts f s) {}

theorem keepsDrains_countPoisoned (s : State) : KeepsDrains s s.countPoisoned :=
  keepsDrains_of_aside (shifts_countPoisoned s) {}

/-! ### Items and entries a write leaves or makes (05 R95, 07 R127, R129) -/

/-- The deadline of a new item has not passed. -/
theorem items_addDrain (i : EntryIx) (s : State) :
    ∀ x ∈ (s.addDrain i).drain, x ∈ s.drain ∨ ∀ d, x.deadline = some d → s.now ≤ d := by
  intro x hx
  rw [State.addDrain_drain, List.mem_append, List.mem_singleton] at hx
  refine hx.imp_right ?_
  rintro rfl d hd
  obtain ⟨n, _, rfl⟩ := Option.map_eq_some_iff.1 hd
  exact Nat.le_add_right _ _

theorem length_addDrain_le {s : State} (h : s.drain.length < 16) (i : EntryIx) : (s.addDrain i).drain.length ≤ 16 := by
  rw [State.addDrain_drain, List.length_append]
  exact h

theorem contents_sweepWrite_self {s : State} (hs : Canonical s) (i : EntryIx) (c : Contents) :
    ((s.sweepWrite i c).entry i).contents = c :=
  congrArg GrantEntry.contents (State.entry_putEntry_self hs i (rewriteEntry (s.entry i) (s.entry i).contents c false))

theorem entry_sweepWrite_ne (s : State) {i j : EntryIx} (hj : j ≠ i) (c : Contents) :
    (s.sweepWrite i c).entry j = s.entry j :=
  State.entry_putEntry_ne s (rewriteEntry (s.entry i) (s.entry i).contents c false) hj

theorem slotDeadline_sweepWrite {s : State} {i : EntryIx} {c : Contents} {k : SlotIx} {d : Time}
    (h : slotDeadline (s.sweepWrite i c).queue[k] = some d) : slotDeadline s.queue[k] = some d := by
  have hslot : (s.sweepWrite i c).queue[k] = s.queue[k] ∨ (s.sweepWrite i c).queue[k] = .empty :=
    emptyStale_slot i s.queue k
  rcases hslot with hsame | hempty
  · rwa [hsame] at h
  · rw [hempty] at h
    contradiction

/-! ### Steps of a walk (09 R152 to R156, R158) -/

section Stepping

variable {s : State} {w : Walk} (hw : s.sweep.walk = some w) (hstate : w.state ≠ .suspended)

include hw

/-- A walk that stands says that the part is not starting. -/
theorem running_of_walking (hs : StartsBare s) : s.loader.phase = .running := by
  by_contra hstarting
  obtain ⟨_, hnone, _⟩ := hs hstarting
  rw [hw] at hnone
  contradiction

include hstate

theorem keepsDrains_advance (y : WalkState) (n : Nat) : KeepsDrains s (s.advance { w with state := y } n) :=
  keepsDrains_of_walk (shifts_advance hw hstate y n) (advance_live _ n s) (State.advance_shape _ n s) fun _ hnone => by
    rw [hw] at hnone
    contradiction

theorem keepsDrains_lackItem {d : Domain} (hkind : w.kind = .domainSweep d) (y : WalkState) :
    KeepsDrains s (s.lackItem { w with state := y }) :=
  keepsDrains_of_walk (shifts_lackItem hw hstate hkind y) (lackItem_live _ s) (State.lackItem_shape _ s) fun _ hnone => by
    rw [hw] at hnone
    contradiction

/-- A sweep's write that leaves the entry REVOKING or not REVOKING as it was. -/
theorem keepsDrains_sweepWrite {i : EntryIx} {c : Contents} (hc : isRevoking c = isRevoking (s.entry i).contents) :
    KeepsDrains s (s.sweepWrite i c) := by
  refine ⟨shifts_quiet rfl rfl, deadlineLaw_of_punctual { slots := fun k d hd => .inl (slotDeadline_sweepWrite hd) },
    fun _ hwalk hdrain => ?_⟩
  obtain ⟨hcanonical, _, hmatch, hbare⟩ := (drainLaw_iff s).1 hdrain
  have hidle : Unvalidated (s.sweepWrite i c).batch.staging :=
    unvalidated_of_not_committing (not_committing_of_walking hwalk hw hstate)
  refine (drainLaw_iff _).2 ⟨canonical_sweepWrite hcanonical i c, copiesLaw_of_unvalidated hidle,
    drainsMatch_of_same hmatch (fun j => ?_) rfl, hbare⟩
  by_cases hj : j = i
  · rw [hj, contents_sweepWrite_self hcanonical, hc]
  · rw [entry_sweepWrite_ne s hj]

/-- A sweep's write that moves the entry into REVOKING with a drain item (07 R127). -/
theorem keepsDrains_sweepDrain {i : EntryIx} (p : Placement) (hwas : isRevoking (s.entry i).contents = false)
    (hroom : s.drain.length < 16) : KeepsDrains s ((s.sweepWrite i (.revoking p)).addDrain i) := by
  refine ⟨shifts_quiet rfl rfl, deadlineLaw_of_punctual ?_, fun _ hwalk hdrain => ?_⟩
  · exact { slots := fun k d hd => .inl (slotDeadline_sweepWrite hd)
            items := items_addDrain i s
            length := fun _ => length_addDrain_le hroom i }
  · obtain ⟨hcanonical, _, hmatch, hbare⟩ := (drainLaw_iff s).1 hdrain
    have hidle : Unvalidated ((s.sweepWrite i (.revoking p)).addDrain i).batch.staging :=
      unvalidated_of_not_committing (not_committing_of_walking hwalk hw hstate)
    have hself := contents_sweepWrite_self hcanonical i (.revoking p)
    refine (drainLaw_iff _).2 ⟨canonical_sweepWrite hcanonical i _, copiesLaw_of_unvalidated hidle,
      drainsMatch_of_opened hmatch hwas (congrArg isRevoking hself) (fun j hj => ?_) rfl hroom,
      fun hstarting => absurd (running_of_walking hw hbare) hstarting⟩
    exact congrArg (fun e => isRevoking e.contents) (entry_sweepWrite_ne s hj _)

/-- A domain sweep takes the entry at its cursor, in a step or in a retake. -/
theorem keepsDrains_sweepTake {d : Domain} (hkind : w.kind = .domainSweep d) (y : WalkState) (d' : Domain) :
    KeepsDrains s (s.sweepTake { w with state := y } d') := by
  have hread := keepsDrains_readEntry .sweep w.cursor s
  have hstands : (s.readEntry .sweep w.cursor).sweep.walk = some w := by rw [State.readEntry_sweep, hw]
  unfold State.sweepTake
  dsimp only
  generalize s.readEntry .sweep w.cursor = u at hread hstands ⊢
  have hpassed := hread.trans (keepsDrains_advance hstands hstate y (w.cursor.val + 1))
  have hcounted {v : State} (hwrite : KeepsDrains u v) (hv : v.sweep = u.sweep) (f : SweepCounts → SweepCounts) :
      KeepsDrains s ((v.updateReport (updateCounts f)).advance { w with state := y } (w.cursor.val + 1)) := by
    have hwalk : (v.updateReport (updateCounts f)).sweep.walk = some w := by rw [← hstands, ← hv]; rfl
    exact ((hread.trans hwrite).trans (keepsDrains_updateCounts f v)).trans (keepsDrains_advance hwalk hstate y _)
  have hwritten {c : Contents} (hc : isRevoking c = isRevoking (u.entry w.cursor).contents) :=
    hcounted (keepsDrains_sweepWrite hstands hstate hc) rfl
  split
  case h_1 =>
    exact (hread.trans (keepsDrains_countPoisoned u)).trans
      (keepsDrains_advance (s := u.countPoisoned) hstands hstate y _)
  case h_2 => exact hpassed
  case h_3 hrevoking =>
    split
    · exact hwritten (by rw [hrevoking]; rfl) _
    · exact hpassed
  case h_4 hlive =>
    split
    · split
      · exact hwritten (by rw [hlive]; rfl) _
      · split
        · exact hwritten (by rw [hlive]; rfl) _
        · split
          · rename_i hroom
            exact hcounted (keepsDrains_sweepDrain hstands hstate _ (by rw [hlive]; rfl) hroom) rfl _
          · exact hread.trans (keepsDrains_lackItem hstands hstate hkind y)
    · exact hpassed

theorem keepsDrains_sweepStepOf {d : Domain} (hkind : w.kind = .domainSweep d) : KeepsDrains s (s.sweepStepOf w d) := by
  unfold State.sweepStepOf
  split
  · exact (keepsDrains_updateCounts _ s).trans (keepsDrains_advance (s := s.updateReport _) hw hstate w.state _)
  · exact keepsDrains_sweepTake hw hstate hkind w.state d

theorem keepsDrains_scrubStepOf : KeepsDrains s (s.scrubStepOf w) := by
  have hread := keepsDrains_readEntry .scrub w.cursor s
  have hstands : (s.readEntry .scrub w.cursor).sweep.walk = some w := by rw [State.readEntry_sweep, hw]
  unfold State.scrubStepOf
  dsimp only
  split
  · exact (hread.trans (keepsDrains_countPoisoned _)).trans
      (keepsDrains_advance (s := (s.readEntry .scrub w.cursor).countPoisoned) hstands hstate w.state _)
  · exact hread.trans (keepsDrains_advance hstands hstate w.state _)

end Stepping

theorem keepsDrains_retake (s : State) : KeepsDrains s s.retake := by
  unfold State.retake
  split
  · rename_i w hw
    split
    · rename_i d hstate hkind
      exact keepsDrains_sweepTake hw (by simp [hstate]) hkind .running d
    · exact .refl s
  · exact .refl s

/-- The end of an event adds at most a retake. -/
theorem KeepsDrains.settled {s t : State} (h : KeepsDrains s t) (u : State) : KeepsDrains s (settle u t) := by
  rcases settle_cases u t with hsame | hretake
  · rwa [hsame]
  · rw [hretake]
    exact h.trans (keepsDrains_retake t)

/-! ### The end of a commit (06 R116, R121) -/

theorem keepsDrains_endCommit {s : State} {r : CommitResult} (h : Shifts s (s.closeCommit r)) :
    KeepsDrains s (State.evaluateWaiting (s.closeCommit r)) := by
  have hclosed : KeepsDrains s (s.closeCommit r) :=
    keepsDrains_of_aside h { staging := .inr ⟨unvalidated_of_not_committing rfl, .inr rfl⟩ }
  exact hclosed.trans (keepsDrains_evaluateWaiting _)

theorem keepsDrains_rejectCommit (g : Group) (n p : Nat) (i : EntryIx) (x : RejectReason) (s : State) :
    KeepsDrains s (s.rejectCommit g n p i x) :=
  (keepsDrains_report _ s).trans (keepsDrains_endCommit (shifts_emptied rfl (.inr nofun) rfl))

/-! ### Validation (06 R112 to R115) -/

/-- No op passes its validation against a REVOKING entry. -/
theorem not_revoking_of_judge_none {s : State} {needed : Nat} {op : BatchOp} (h : s.judge needed op = none) :
    isRevoking (s.entry (opEntry op)).contents = false := by
  by_contra hnot
  obtain ⟨p, hp⟩ := isRevoking_iff.1 (Bool.not_eq_false _ ▸ hnot)
  cases op with
  | install i x bad =>
    have hentry : (s.entry i).contents = .revoking p := hp
    rw [judge_install, judgeInstall_occupied (.inr hentry)] at h
    contradiction
  | amend i a x m bad =>
    have hlive (y : Placement) : (s.entry i).contents ≠ .live y := by
      rw [show (s.entry i).contents = .revoking p from hp]
      exact Contents.noConfusion
    rw [judge_amend, judgeAmend_of_not_live hlive] at h
    contradiction
  | revoke i =>
    have hentry : isRevoking (s.entry i).contents = true := isRevoking_iff.2 ⟨p, hp⟩
    rw [judge_revoke, judgeRevoke_notLive (not_revocable_iff.1 (.inr hentry))] at h
    contradiction

section Commit

variable {s : State} {g : Group} {n k : Nat} {ops : List BatchOp} {copies : List ValidatedCopy} {x : Tally}
  (hs : s.batch.staging = .committing g n ops copies k x)

include hs

theorem running_of_copies (hbare : StartsBare s) : s.loader.phase = .running := by
  by_contra hstarting
  obtain ⟨hidle, _⟩ := hbare hstarting
  rw [hs] at hidle
  contradiction

/-- The next op is validated against an entry that is not REVOKING, and its copy says how the entry stands. -/
theorem keepsDrains_validated {op : BatchOp} {c : ValidatedCopy} (hop : ops[copies.length]? = some op)
    (hc : c.contents = (s.entry (opEntry op)).contents) (hnot : isRevoking c.contents = false) :
    KeepsDrains s (s.putStaging (.committing g n ops (copies ++ [c]) k x)) := by
  obtain ⟨hleft, _⟩ := List.getElem?_eq_some_iff.1 hop
  refine ⟨shifts_putStaging_committing (.validated c hs hleft) (by rw [hs]; rfl), deadlineLaw_of_punctual {},
    fun _ _ hdrain => ?_⟩
  obtain ⟨hcanonical, hcopies, hmatch, hbare⟩ := (drainLaw_iff s).1 hdrain
  refine (drainLaw_iff _).2 ⟨hcanonical, ?_, hmatch, fun hstarting => absurd (running_of_copies hs hbare) hstarting⟩
  rintro g' n' ops' copies' k' x' ⟨⟩ j op' c' hkj hop' hc'
  by_cases hj : j < copies.length
  · rw [List.getElem?_append_left hj] at hc'
    exact hcopies g n ops copies k x hs j op' c' hkj hop' hc'
  · obtain ⟨hlt, _⟩ := List.getElem?_eq_some_iff.1 hc'
    rw [List.length_append, List.length_singleton] at hlt
    obtain rfl : j = copies.length := by omega
    rw [List.getElem?_concat_length] at hc'
    cases hc'
    cases hop.symm.trans hop'
    exact ⟨hnot, .inl hc.symm⟩

end Commit

/-! ### Application (06 R117 to R119) -/

/-- An application writes its entry as one that is not REVOKING, or writes none, or moves its entry into REVOKING with an
item. -/
theorem applyOp_cases {op : BatchOp} {c : ValidatedCopy} {s : State} :
    (∃ e, isRevoking e.contents = false ∧ (s.applyOp op c).1 = s.putEntry (opEntry op) e)
    ∨ (∃ n, (s.applyOp op c).1 = { s with free := n })
    ∨ ∃ e, isRevoking e.contents = true ∧ s.drain.length < 16
        ∧ (s.applyOp op c).1 = (s.putEntry (opEntry op) e).addDrain (opEntry op) := by
  cases op with
  | install i p bad => exact .inl ⟨_, rfl, by rw [applyOp_install]; rfl⟩
  | amend i a x m bad =>
    unfold State.applyOp
    dsimp only
    split
    · exact .inl ⟨_, rfl, rfl⟩
    · exact .inr (.inl ⟨s.free, rfl⟩)
  | revoke i =>
    rw [applyOp_revoke]
    unfold State.applyRevoke
    dsimp only
    split
    · exact .inl ⟨_, rfl, rfl⟩
    · split
      · rename_i hroom
        exact .inr (.inr ⟨_, rfl, hroom, rfl⟩)
      · exact .inr (.inl ⟨_, rfl⟩)

theorem punctual_applyOp (op : BatchOp) (c : ValidatedCopy) (s : State) : Punctual s (s.applyOp op c).1 := by
  rcases applyOp_cases (op := op) (c := c) (s := s) with ⟨e, _, h⟩ | ⟨n, h⟩ | ⟨e, _, hroom, h⟩
  · rw [h]
    exact {}
  · rw [h]
    exact {}
  · rw [h]
    exact { items := items_addDrain (opEntry op) s, length := fun _ => length_addDrain_le hroom (opEntry op) }

theorem entry_applyOp_ne (op : BatchOp) (c : ValidatedCopy) (s : State) {j : EntryIx} (hj : j ≠ opEntry op) :
    (s.applyOp op c).1.entry j = s.entry j := by
  rcases applyOp_cases (op := op) (c := c) (s := s) with ⟨e, _, h⟩ | ⟨n, h⟩ | ⟨e, _, _, h⟩
  · rw [h, State.entry_putEntry_ne s e hj]
  · rw [h]
    rfl
  · rw [h]
    exact State.entry_putEntry_ne s e hj

theorem drainsMatch_applyOp {op : BatchOp} {s : State} (hs : DrainsMatch s) (hcanonical : Canonical s)
    (hwas : isRevoking (s.entry (opEntry op)).contents = false) (c : ValidatedCopy) :
    DrainsMatch (s.applyOp op c).1 := by
  have hothers (j : EntryIx) (hj : j ≠ opEntry op) :
      isRevoking ((s.applyOp op c).1.entry j).contents = isRevoking (s.entry j).contents := by
    rw [entry_applyOp_ne op c s hj]
  rcases applyOp_cases (op := op) (c := c) (s := s) with ⟨e, he, h⟩ | ⟨n, h⟩ | ⟨e, he, hroom, h⟩
  · rw [h] at hothers ⊢
    refine drainsMatch_of_same hs (fun j => ?_) rfl
    by_cases hj : j = opEntry op
    · rw [hj, State.entry_putEntry_self hcanonical, he, hwas]
    · exact hothers j hj
  · rw [h]
    exact hs
  · rw [h] at hothers ⊢
    have hself : ((s.putEntry (opEntry op) e).addDrain (opEntry op)).entry (opEntry op) = e :=
      State.entry_putEntry_self hcanonical (opEntry op) e
    exact drainsMatch_of_opened hs hwas (by rw [hself]; exact he) hothers rfl hroom

section Commit

variable {s : State} {g : Group} {n k : Nat} {ops : List BatchOp} {copies : List ValidatedCopy} {x : Tally}
  (hs : s.batch.staging = .committing g n ops copies k x)

include hs

/-- The next op is applied to the entry its copy was made of; no later op names that entry (06 R101). -/
theorem keepsDrains_applied {op : BatchOp} {c : ValidatedCopy} (hvalid : copies.length = ops.length)
    (hop : ops[k]? = some op) (hc : copies[k]? = some c) (r : Config.Tallied) :
    KeepsDrains s ((s.applyOp op c).1.putStaging (.committing g n ops copies (k + 1) (tallied r x))) := by
  obtain ⟨hleft, _⟩ := List.getElem?_eq_some_iff.1 hop
  have hstands : (s.applyOp op c).1.batch.staging = .committing g n ops copies k x := by rw [State.applyOp_batch, hs]
  refine ⟨(shifts_applyOp op c s).trans
    (shifts_putStaging_committing (.applied r hstands hvalid hleft) (by rw [hstands]; rfl)),
    deadlineLaw_of_punctual (t := (s.applyOp op c).1) (punctual_applyOp op c s), fun hstaging _ hdrain => ?_⟩
  obtain ⟨hcanonical, hcopies, hmatch, hbare⟩ := (drainLaw_iff s).1 hdrain
  have hnodup : (ops.map opEntry).Nodup := by
    rw [stagingLaw_iff, hs] at hstaging
    obtain ⟨⟨_, _, _, ⟨_, hnodup⟩, _⟩, _⟩ := hstaging
    exact hnodup
  have hwas : isRevoking (s.entry (opEntry op)).contents = false := by
    obtain ⟨hcopy, hentry⟩ := hcopies g n ops copies k x hs k op c (Nat.le_refl k) hop hc
    rcases hentry with h | h
    · rw [h, hcopy]
    · rw [h]
      rfl
  refine (drainLaw_iff _).2 ⟨canonical_applyOp hcanonical op c, ?_, drainsMatch_applyOp hmatch hcanonical hwas c,
    fun hstarting => ?_⟩
  · rintro g' n' ops' copies' k' x' ⟨⟩ j op' c' hkj hop' hc'
    have hother : opEntry op' ≠ opEntry op := by
      intro hsame
      have hsame' : (ops.map opEntry)[k]? = (ops.map opEntry)[j]? := by
        rw [List.getElem?_map, List.getElem?_map, hop, hop', Option.map_some, Option.map_some, hsame]
      have hkj' : k = j := (List.getElem?_inj (by rwa [List.length_map]) hnodup).1 hsame'
      omega
    have hentry : ((s.applyOp op c).1.putStaging (.committing g n ops copies (k + 1) (tallied r x))).entry (opEntry op')
        = s.entry (opEntry op') := entry_applyOp_ne op c s hother
    rw [hentry]
    exact hcopies g n ops copies k x hs j op' c' (by omega) hop' hc'
  · have hloader : (s.applyOp op c).1.loader = s.loader := State.applyOp_loader op c s
    exact absurd ((congrArg ImageLoader.phase hloader).trans (running_of_copies hs hbare)) hstarting

end Commit

end Sys2Proof.Machine
end

section
/-! SUPPORT. The load of the image, the resets and the passing of time, as far as deadlines and Drain List go
(12 R183 to R189, log 2, log 5). -/

namespace Sys2Proof.Machine

/-! ### The load, piece by piece (12 R183 to R186) -/

/-- No deadline is set, and no entry becomes REVOKING. -/
structure Fills (s t : State) : Prop where
  deadlines : ∀ r d, (t.requester r).deadline = some d → (s.requester r).deadline = some d
  revoking : ∀ i, isRevoking (t.entry i).contents = true → isRevoking (s.entry i).contents = true

theorem Fills.refl (s : State) : Fills s s := ⟨fun _ _ => id, fun _ => id⟩

theorem Fills.trans {s t u : State} (hst : Fills s t) (htu : Fills t u) : Fills s u where
  deadlines r d h := hst.deadlines r d (htu.deadlines r d h)
  revoking i h := hst.revoking i (htu.revoking i h)

/-- A piece that leaves entries and live records. -/
theorem fills_elsewhere {s t : State} (hentries : t.store.entries = s.store.entries)
    (hlive : t.requesters.live = s.requesters.live) : Fills s t where
  deadlines r d h := by
    unfold State.requester at h ⊢
    rwa [hlive] at h
  revoking i h := by rwa [State.entry_congr hentries] at h

theorem fills_reportSkipped (x : ImageItem) (n : Nat) (f : ImageFlags → ImageFlags) (s : State) :
    Fills s (s.reportSkipped x n f) := by
  unfold State.reportSkipped
  split
  · exact .refl s
  · exact fills_elsewhere rfl rfl

theorem fills_putWork (w : LoadWork) (s : State) : Fills s (s.putWork w) := fills_elsewhere rfl rfl

theorem fills_loadCheck (s : State) : Fills s s.loadCheck := by
  unfold State.loadCheck
  split
  · exact fills_elsewhere rfl rfl
  · exact fills_putWork _ s

theorem fills_applyControl (c : ControlValues) (s : State) : Fills s (s.applyControl c) := by
  rw [applyControl_eq]
  exact (fills_elsewhere (s := s) (t := s.setControl c) rfl rfl).trans (fills_reportSkipped _ _ _ _)

theorem fills_loadControl (s : State) : Fills s s.loadControl := by
  unfold State.loadControl
  split
  · exact (fills_applyControl _ s).trans (fills_putWork _ _)
  · exact (fills_applyControl _ s).trans (fills_putWork _ _)
  · exact (fills_applyControl _ s).trans (fills_putWork _ _)

/-- Live records loaded from the Requester Defaults are in no quarantine (02 R23). -/
theorem fills_applyRequesters (v : RequesterValues) (s : State) : Fills s (s.applyRequesters v) := by
  have hset : Fills s (s.setRequesters v) := by
    refine ⟨fun r d h => ?_, fun _ => id⟩
    rw [setRequesters_requester] at h
    contradiction
  rw [applyRequesters_eq]
  exact hset.trans (fills_reportSkipped _ _ _ _)

theorem fills_loadRequesters (s : State) : Fills s s.loadRequesters := by
  unfold State.loadRequesters
  split
  · exact (fills_applyRequesters _ s).trans (fills_putWork _ _)
  · exact (fills_applyRequesters _ s).trans (fills_putWork _ _)
  · exact (fills_applyRequesters _ s).trans (fills_putWork _ _)

theorem fills_loadPreloadStart (s : State) : Fills s s.loadPreloadStart := by
  unfold State.loadPreloadStart
  split
  · exact fills_putWork _ s
  · exact fills_putWork _ s
  · exact fills_elsewhere rfl rfl

/-- A preload record installs a LIVE entry (12 R186). -/
theorem fills_takePreload (a b c : ImageWord) (r : PreloadRun) : Fills r.state (takePreload a b c r).state := by
  unfold takePreload
  split
  · rename_i i p _
    split
    · exact .refl _
    · refine ⟨fun _ _ => id, fun j h => ?_⟩
      have hlisted : replaceEntry (r.state.entry i) (.live p) ≠ clearedEntry := nofun
      by_cases hj : j = i
      · rw [hj, State.entry_putEntry_listed r.state i hlisted] at h
        contradiction
      · rwa [State.entry_putEntry_ne r.state _ hj] at h
  · exact .refl _

theorem fills_preloadRecords (l : List ImageWord) (r : PreloadRun) : Fills r.state (preloadRecords l r).state := by
  fun_induction preloadRecords l r with
  | case1 a b c rest r ih => exact (fills_takePreload a b c r).trans ih
  | case2 => exact .refl _
  | case3 => exact .refl _

theorem fills_loadPreloadRest (l : List ImageWord) (m : List Nat) (n : Nat) (s : State) :
    Fills s (s.loadPreloadRest l m n) :=
  ((fills_preloadRecords l ⟨s, m, n⟩).trans (fills_reportSkipped _ _ _ _)).trans (fills_putWork _ _)

theorem fills_loadPreloadPiece (l : List ImageWord) (m : List Nat) (n : Nat) (s : State) :
    Fills s (s.loadPreloadPiece l m n) := by
  unfold State.loadPreloadPiece
  split
  · exact (fills_takePreload _ _ _ ⟨s, m, n⟩).trans (fills_putWork _ _)
  · exact fills_loadPreloadRest l m n s

theorem fills_loadFromPreload (s : State) : Fills s s.loadFromPreload := by
  unfold State.loadFromPreload
  split
  · exact fills_loadPreloadRest _ _ _ s
  · exact .refl s

theorem fills_loadFreeze (s : State) : Fills s s.loadFreeze := by
  obtain ⟨_, _, _, h⟩ := State.loadFreeze_shape s
  exact fills_elsewhere (by rw [h]) (by rw [h])

theorem fills_loadPiece (s : State) : Fills s s.loadPiece := by
  unfold State.loadPiece
  split
  · exact fills_loadCheck s
  · exact fills_loadControl s
  · exact fills_loadRequesters s
  · exact fills_loadPreloadStart s
  · exact fills_loadPreloadPiece _ _ _ s
  · exact fills_loadFreeze s
  · exact .refl s
  · exact .refl s

theorem fills_loadRest (s : State) : Fills s s.loadRest := by
  have stage {c : Prop} [Decidable c] {u v w : State} (hu : Fills u v) (hv : Fills v w) :
      Fills u (if c then w else v) := by
    split
    · exact hu.trans hv
    · exact hu
  have hcheck : Fills s s.loadFromCheck := stage (.refl s) (fills_loadCheck s)
  have hcontrol : Fills s s.loadFromCheck.loadFromControl := stage hcheck (fills_loadControl _)
  have hrequesters : Fills s s.loadFromCheck.loadFromControl.loadFromRequesters :=
    stage hcontrol (fills_loadRequesters _)
  have hstart : Fills s s.loadFromCheck.loadFromControl.loadFromRequesters.loadFromPreloadStart :=
    stage hrequesters (fills_loadPreloadStart _)
  exact stage (hstart.trans (fills_loadFromPreload _)) (fills_loadFreeze _)

/-- A part that is starting has no item and so no REVOKING entry, and the load makes none. -/
theorem keepsDrains_of_fills {s t : State} (h : Fills s t) (hloads : Loads s t) (hcanonical : Canonical s → Canonical t)
    (hshape : ∃ x0 x2 x7 x9 x10 x12,
      t = { s with store := x0, requesters := x2, freeze := x7, errors := x9, settings := x10, loader := x12 })
    (hstarting : s.loader.phase ≠ .running) : KeepsDrains s t := by
  have hphase := hloads.phase
  obtain ⟨_, _, _, _, _, _, rfl⟩ := hshape
  refine ⟨shifts_quiet rfl rfl, deadlineLaw_of_punctual { requesters := fun r d hd => .inl (h.deadlines r d hd) },
    fun _ _ hdrain => ?_⟩
  obtain ⟨hs, _, ⟨hmatch, hnodup, hlength⟩, hbare⟩ := (drainLaw_iff s).1 hdrain
  obtain ⟨hidle, hwalk, hempty⟩ := hbare hstarting
  have hnone (i : EntryIx) : i ∉ s.drainEntries := by
    unfold State.drainEntries
    rw [hempty]
    exact List.not_mem_nil
  refine (drainLaw_iff _).2 ⟨hcanonical hs, copiesLaw_of_unvalidated (unvalidated_of_not_committing ?_),
    ⟨fun i => iff_of_false (fun hi => hnone i ((hmatch i).1 (h.revoking i hi))) (hnone i), hnodup, hlength⟩,
    fun _ => ⟨hidle, hwalk, hempty⟩⟩
  show committing s.batch.staging = false
  rw [hidle]
  rfl

theorem keepsDrains_enterRunning (s : State) : KeepsDrains s s.enterRunning :=
  keepsDrains_elsewhere { phase := .inr rfl }

theorem keepsDrains_imageLoadDone {s : State} (hstarting : s.loader.phase ≠ .running) :
    KeepsDrains s s.loadRest.enterRunning :=
  (keepsDrains_of_fills (fills_loadRest s) (loads_loadRest s) canonical_loadRest (State.loadRest_shape s) hstarting).trans
    (keepsDrains_enterRunning _)

theorem keepsDrains_preloadReloadDone {s : State} (hstarting : s.loader.phase ≠ .running) :
    KeepsDrains s s.loadFromPreload.enterRunning := by
  obtain ⟨_, _, _, hshape⟩ := State.loadFromPreload_shape s
  exact (keepsDrains_of_fills (fills_loadFromPreload s) (loads_loadFromPreload s) canonical_loadFromPreload
    ⟨_, _, _, _, _, _, hshape⟩ hstarting).trans (keepsDrains_enterRunning _)

/-! ### A ns passes (log 2, log 5) -/

/-- A tick that does load work does it in a part that is starting. -/
theorem loadTick_cases (s : State) : s.loadTick = s ∨ s.loader.phase ≠ .running
    ∧ (s.loadTick = { s with free := s.free + 1 } ∨ s.loadTick = State.loadPiece { s with free := s.free + 1 }) := by
  by_cases hworks : s.loaderWorks = true
  · refine .inr ⟨fun hrunning => ?_, ?_⟩
    · simp [State.loaderWorks, hrunning] at hworks
    · unfold State.loadTick
      rw [if_pos hworks]
      dsimp only
      split
      · exact .inr rfl
      · exact .inl rfl
  · unfold State.loadTick
    rw [if_neg hworks]
    exact .inl rfl

theorem keepsDrains_loadTick (s : State) : KeepsDrains s s.loadTick := by
  have hfree : KeepsDrains s { s with free := s.free + 1 } := keepsDrains_elsewhere
  rcases loadTick_cases s with h | ⟨hstarting, h | h⟩
  · rw [h]
    exact .refl s
  · rwa [h]
  · rw [h]
    exact hfree.trans (keepsDrains_of_fills (fills_loadPiece _) (loads_loadPiece _) canonical_loadPiece
      (State.loadPiece_shape _) hstarting)

theorem fills_loadTick (s : State) : Fills s s.loadTick := by
  rcases loadTick_cases s with h | ⟨_, h | h⟩
  · rw [h]
    exact .refl s
  · rw [h]
    exact fills_elsewhere rfl rfl
  · rw [h]
    exact (fills_elsewhere (s := s) (t := { s with free := s.free + 1 }) rfl rfl).trans (fills_loadPiece _)

/-- With nothing due, every deadline that stands lies a ns ahead. -/
theorem deadlineLaw_tick {s : State} (hnone : s.dueEvent = none) (hs : DeadlineLaw s) : DeadlineLaw s.tick := by
  have hempty : s.dueExpiries = [] := by
    by_contra hsome
    obtain ⟨c, _, hc⟩ := dueEvent_mem hsome
    rw [hnone] at hc
    contradiction
  have hahead {c : Instr} {d : Time} (hdue : d ≤ s.now → c ∈ s.dueExpiries) : s.now + 1 ≤ d :=
    Nat.succ_le_of_lt (Nat.lt_of_not_le fun hle => List.not_mem_nil (hempty ▸ hdue hle))
  obtain ⟨_, _, _, hlength⟩ := hs
  have hfills := fills_loadTick s
  rw [tick_eq]
  obtain ⟨_, _, _, _, _, _, _, hshape⟩ := State.loadTick_shape s
  rw [hshape] at hfills ⊢
  refine ⟨fun r d hd => ?_, fun k d hd => ?_, fun x hx d hd => ?_, hlength⟩
  · exact hahead fun hle => (mem_dueExpiries s _).2 (.inl ⟨r, d, rfl, hfills.deadlines r d hd, hle⟩)
  · obtain ⟨q, i, a, hk⟩ := slotDeadline_eq_some_iff.1 hd
    exact hahead fun hle => (mem_dueExpiries s _).2 (.inr (.inl ⟨k, q, i, a, d, rfl, hk, hle⟩))
  · obtain ⟨p, hp, rfl⟩ := List.getElem_of_mem hx
    have hitem : s.drain[p]? = some ⟨s.drain[p].entry, some d⟩ := by
      rw [List.getElem?_eq_getElem hp, ← hd]
    exact hahead fun hle => (mem_dueExpiries s _).2
      (.inr (.inr ⟨⟨p, hp.trans_le hlength⟩, s.drain[p].entry, d, rfl, hitem, hle⟩))

/-- The Drain List's law does not speak of time. -/
theorem keepsDrains_tick {s : State} (hnone : s.dueEvent = none) : KeepsDrains s s.tick := by
  refine ⟨shifts_tick s, deadlineLaw_tick hnone, fun hstaging hwalk hdrain => ?_⟩
  rw [tick_eq]
  exact (keepsDrains_loadTick s).drains hstaging hwalk hdrain

/-! ### Resets (12 R187, R188) -/

/-- Tables emptied, with no deadline set and neither batch nor walk left. -/
structure Empties (s t : State) : Prop where
  now : t.now = s.now := by rfl
  requesters : ∀ r d, (t.requester r).deadline = some d → (s.requester r).deadline = some d
  slots : ∀ k : SlotIx, t.queue[k] = .empty
  drain : t.drain = [] := by rfl
  entries : t.store.entries = [] := by rfl
  idle : t.batch.staging = .idle
  walk : t.sweep.walk = none

theorem keepsDrains_of_empties {s t : State} (hshifts : Shifts s t) (h : Empties s t) : KeepsDrains s t := by
  refine ⟨hshifts, deadlineLaw_of_punctual ?_, fun _ _ _ => ?_⟩
  · exact {
      now := h.now
      requesters := fun r d hd => .inl (h.requesters r d hd)
      slots := fun k d hd => by
        rw [h.slots k] at hd
        contradiction
      items := fun x hx => by
        rw [h.drain] at hx
        contradiction
      length := fun _ => by rw [h.drain]; exact Nat.zero_le _ }
  · have hentry (i : EntryIx) : t.entry i = clearedEntry := by
      rw [← entry_reset i]
      exact State.entry_congr h.entries i
    refine (drainLaw_iff t).2 ⟨canonical_congr h.entries canonical_reset,
      copiesLaw_of_unvalidated (unvalidated_of_not_committing (by rw [h.idle]; rfl)), ⟨fun i => ?_, ?_, ?_⟩,
      fun _ => ⟨h.idle, h.walk, h.drain⟩⟩
    · unfold State.drainEntries
      rw [hentry, h.drain]
      exact iff_of_false Bool.false_ne_true List.not_mem_nil
    · unfold State.drainEntries
      rw [h.drain]
      exact List.nodup_nil
    · rw [h.drain]
      exact Nat.zero_le _

theorem keepsDrains_fullReset {r : CommitResult} (hr : NotOk r) (x : Transaction) (s : State) :
    KeepsDrains s (s.fullReset r x) := by
  refine keepsDrains_of_empties (shifts_fullReset hr x s)
    { requesters := fun q d hd => ?_, slots := fullReset_slot r x s, idle := rfl, walk := rfl }
  have hnone : ((s.fullReset r x).requester q).deadline = none := by
    show (RequesterTable.reset.live[q]).deadline = none
    simp [RequesterTable.reset, Requester.reset]
  rw [hnone] at hd
  contradiction

theorem keepsDrains_fullResetCommand (s : State) : KeepsDrains s s.fullResetCommand := by
  have hcounted : KeepsDrains s { s with loads := s.loads + 1 } := keepsDrains_elsewhere
  exact hcounted.trans (keepsDrains_fullReset (notOk_abandonedResult _) _ _)

/-- A table reset is accepted with no batch open; a commit in progress is abandoned (06 R123, 12 R188). -/
theorem keepsDrains_acceptTableReset {s : State} (hs : NoOpenBatch s) : KeepsDrains s s.acceptTableReset := by
  obtain ⟨hwalk, _⟩ := cancelWalk_keeps s
  exact keepsDrains_of_empties (shifts_acceptTableReset s) {
    now := by rw [acceptTableReset_eq]; rfl
    requesters := fun r d hd => by rwa [acceptTableReset_requester] at hd
    slots := acceptTableReset_slot s
    drain := by rw [acceptTableReset_eq]; rfl
    entries := by rw [acceptTableReset_eq]; rfl
    idle := by
      rw [acceptTableReset_batch]
      exact abandonedBatch_idle hs
    walk := by rw [acceptTableReset_eq]; exact hwalk }

end Sys2Proof.Machine
end

section
/-! SUPPORT. The host commands, as far as deadlines, Drain List and validated copies go (06 R103 to R110, 07 R133,
09 R150 to R160, 11 R181). -/

namespace Sys2Proof.Machine

theorem Aside.refl (s : State) : Aside s s := {}

/-- Staging Buffer emptied, and nothing else that the laws speak of. -/
theorem aside_abortBatch (x : AbortReason) (s : State) : Aside s (s.abortBatch x) :=
  { staging := .inr ⟨unvalidated_of_not_committing rfl, .inr rfl⟩ }

theorem slotDeadline_demote {g : Group} {x : Slot} {d : Time} (h : slotDeadline (demote g x) = some d) :
    slotDeadline x = some d := by
  cases x with
  | empty => exact h
  | waiting q i => exact h
  | ready q i a e =>
    unfold demote at h
    dsimp only at h
    split at h
    · contradiction
    · exact h

section Bodies

variable {s : State} (hrunning : s.loader.phase = .running)

include hrunning

/-! ### The batch commands (06 R103 to R110) -/

theorem aside_openTests : Aside s s.openTests.1 := by
  unfold State.openTests
  split
  · exact .refl s
  · split
    · exact .refl s
    · dsimp only
      split
      · exact .refl s
      · split
        · exact aside_abortBatch _ s
        · exact { staging := .inr ⟨unvalidated_of_not_committing rfl, .inl hrunning⟩ }

theorem aside_loadTests : Aside s s.loadTests.1 := by
  unfold State.loadTests
  split
  · exact .refl s
  · exact .refl s
  · exact aside_abortBatch _ s
  · split
    · exact .refl s
    · split
      · exact aside_abortBatch _ s
      · split
        · exact aside_abortBatch _ s
        · exact { staging := .inr ⟨unvalidated_of_not_committing (committing_appendOp _ _ _ _), .inl hrunning⟩ }

omit hrunning in
theorem aside_discardTests : Aside s s.discardTests.1 := by
  unfold State.discardTests
  split
  · exact .refl s
  · exact { staging := .inr ⟨unvalidated_of_not_committing rfl, .inr rfl⟩ }

/-- An accepted commit has validated nothing, and demotes READY slots to WAITING ones without a deadline (06 R109). -/
theorem aside_acceptCommit (g : Group) (n : Nat) (ops : List BatchOp) : Aside s (s.acceptCommit g n ops) where
  slots k d hd := by
    have hslot : (s.acceptCommit g n ops).queue[k] = demote g s.queue[k] := tabulate_get _ k.val k.isLt
    rw [hslot] at hd
    exact .inl (slotDeadline_demote hd)
  staging := by
    refine .inr ⟨?_, .inl hrunning⟩
    rintro g' n' ops' copies k t ⟨⟩
    rfl

theorem aside_commitTests : Aside s s.commitTests.1 := by
  unfold State.commitTests
  split
  · exact .refl s
  · exact aside_abortBatch _ s
  · exact .refl s
  · split
    · exact { staging := .inr ⟨unvalidated_of_not_committing rfl, .inr rfl⟩ }
    · split
      · exact .refl s
      · exact aside_acceptCommit hrunning _ _ _

/-! ### The walk commands (09 R150 to R160) -/

theorem aside_startWalk (k : WalkKind) : Aside s (s.startWalk k).1 := by
  unfold State.startWalk
  split
  · exact .refl s
  · cases k with
    | domainSweep d => exact { walk := fun hstarting => absurd hrunning hstarting }
    | scrub => exact { walk := fun hstarting => absurd hrunning hstarting }

theorem aside_domainSweepTests : Aside s s.domainSweepTests.1 := by
  unfold State.domainSweepTests
  split
  · exact .refl s
  · exact aside_startWalk hrunning _

theorem aside_walkIn (x : WalkState) (w : Walk) : Aside s (s.walkIn x w) :=
  { walk := fun hstarting => absurd hrunning hstarting }

theorem aside_suspendTests : Aside s s.suspendTests.1 := by
  unfold State.suspendTests
  split
  · exact .refl s
  · split
    · exact aside_walkIn hrunning _ _
    · exact aside_walkIn hrunning _ _
    · exact .refl s
    · exact .refl s

theorem aside_resumeTests : Aside s s.resumeTests.1 := by
  unfold State.resumeTests
  split
  · exact .refl s
  · split
    · exact .refl s
    · split
      · exact .refl s
      · exact aside_walkIn hrunning _ _

theorem keepsDrains_cancelTests : KeepsDrains s s.cancelTests.1 := by
  unfold State.cancelTests
  split
  · exact .refl s
  · rename_i w hw
    split
    · rename_i hstate
      have hturn : MayTurn (committing s.batch.staging) w (.suspending true) :=
        mayTurn_of_not_suspended (by simp [hstate]) fun _ => WalkState.noConfusion
      exact keepsDrains_of_aside (shifts_walkIn hw hturn) (aside_walkIn hrunning _ _)
    · exact keepsDrains_cancelled w s
    · exact keepsDrains_cancelled w s
    · exact keepsDrains_cancelled w s

end Bodies

/-! ### The other commands (08 R141 to R144, 07 R133, 02 R26, R34, R36, 11 R182) -/

section Others

variable (s : State)

theorem aside_freezeGroupTests : Aside s s.freezeGroupTests.1 := by
  unfold State.freezeGroupTests
  split
  · exact .refl s
  · split
    · exact .refl s
    · exact {}

theorem aside_thawGroupTests : Aside s s.thawGroupTests.1 := by
  unfold State.thawGroupTests
  split
  · exact .refl s
  · split
    · exact .refl s
    · exact {}

theorem aside_freezeAllTests : Aside s s.freezeAllTests.1 := by
  unfold State.freezeAllTests
  split
  · exact .refl s
  · exact {}

theorem aside_freezeRangeTests : Aside s s.freezeRangeTests.1 := by
  unfold State.freezeRangeTests
  split
  · exact .refl s
  · split
    · exact .refl s
    · exact {}

theorem aside_domainSetTests : Aside s s.domainSetTests.1 := by
  unfold State.domainSetTests
  split
  · exact .refl s
  · split
    · exact .refl s
    · exact {}

/-- The drain that is forced to its end is one of a REVOKING entry (07 R133). -/
theorem keepsDrains_forceDrainTests : KeepsDrains s s.forceDrainTests.1 := by
  unfold State.forceDrainTests
  split
  · exact .refl s
  · split
    · rename_i hrevoking
      exact ((keepsDrains_endDrain (.inl hrevoking)).trans (keepsDrains_raise _ _)).settled s
    · exact .refl s

/-- A quarantine ordered by the host ends after the present time (02 R34). -/
theorem keepsDrains_requesterSetTests : KeepsDrains s s.requesterSetTests.1 := by
  unfold State.requesterSetTests
  split
  · exact .refl s
  · rename_i o _
    split
    · exact .refl s
    · cases o.standing with
      | disabled =>
        dsimp only
        exact (keepsDrains_acceptClearing o.requester (.toDisabled o.domain o.limit) s).settled s
      | enabled => exact keepsDrains_putRequester nofun
      | quarantined =>
        refine keepsDrains_putRequester fun d hd => .inr ?_
        cases hd
        exact Nat.le_add_right _ _

theorem keepsDrains_requesterResetTests : KeepsDrains s s.requesterResetTests.1 := by
  unfold State.requesterResetTests
  split
  · exact .refl s
  · rename_i r _
    split
    · exact .refl s
    · dsimp only
      exact (keepsDrains_acceptClearing r .toDefaults s).settled s

variable {s} in
theorem keepsDrains_readEntryAnswer {u : State} {bytes : List Byte} (h : s.readEntryAnswer = some (u, bytes)) :
    KeepsDrains s u := by
  unfold State.readEntryAnswer at h
  split at h
  · contradiction
  · cases h
    exact (keepsDrains_readEntry _ _ s).settled s

end Others

/-! ### The gates of the commands (06 R107, 11 R181, R182) -/

/-- The effect of a command keeps both laws. -/
def Draining (f : State → State) : Prop := ∀ s, KeepsDrains s (f s)

theorem keepsDrains_interrupt (s : State) : KeepsDrains s s.interrupt := by
  unfold State.interrupt
  split
  · exact keepsDrains_of_aside (shifts_abortBatch s _) (aside_abortBatch _ s)
  · exact .refl s

/-- A command past its gate acts in RUNNING, with no batch open. -/
theorem draining_interrupting {body : State → State × CommandEnd}
    (hbody : ∀ s, s.loader.phase = .running → NoOpenBatch s → KeepsDrains s (body s).1) :
    Draining (State.interrupting body) := by
  intro s
  unfold State.interrupting
  split
  · exact keepsDrains_setStatus _ s
  · rename_i hstarting
    have hrunning : s.interrupt.loader.phase = .running := by
      rw [State.interrupt_loader]
      exact phase_of_not_starting hstarting
    exact ((keepsDrains_interrupt s).trans (hbody _ hrunning (noOpenBatch_interrupt s))).trans (keepsDrains_setStatus _ _)

/-- A command with shifts and asides alone. -/
theorem draining_interrupting_of_aside {body : State → State × CommandEnd} (hshifts : ∀ s, Shifts s (body s).1)
    (hbody : ∀ s, s.loader.phase = .running → Aside s (body s).1) : Draining (State.interrupting body) :=
  draining_interrupting fun s hrunning _ => keepsDrains_of_aside (hshifts s) (hbody s hrunning)

theorem draining_batchCommand {body : State → State × CommandEnd} (hshifts : ∀ s, Shifts s (body s).1)
    (hbody : ∀ s, s.loader.phase = .running → Aside s (body s).1) : Draining (State.batchCommand body) := by
  intro s
  unfold State.batchCommand
  split
  · exact keepsDrains_setStatus _ s
  · rename_i hstarting
    exact (keepsDrains_of_aside (hshifts s) (hbody s (phase_of_not_starting hstarting))).trans (keepsDrains_setStatus _ _)

theorem draining_query {answer : State → Option (State × List Byte)}
    (hanswer : ∀ {s u : State} {bytes : List Byte}, answer s = some (u, bytes) → KeepsDrains s u) :
    Draining (State.query answer) := by
  intro s
  unfold State.query
  split
  · rename_i u bytes hu
    exact (hanswer hu).trans keepsDrains_elsewhere
  · exact keepsDrains_setStatus _ s

/-- A query that only looks. -/
theorem draining_query_map {α : Type} (index : State → Option α) (bytes : State → α → List Byte) :
    Draining (State.query (fun s => (index s).map (fun k => (s, bytes s k)))) := by
  refine draining_query fun {s u _} h => ?_
  obtain ⟨k, _, hk⟩ := Option.map_eq_some_iff.1 h
  cases hk
  exact .refl s

theorem draining_query_some (bytes : State → List Byte) : Draining (State.query (fun s => some (s, bytes s))) := by
  refine draining_query fun {s u _} h => ?_
  cases h
  exact .refl s

/-! ### The command table (11 R181) -/

theorem draining_batchOpen : Draining State.batchOpen :=
  draining_interrupting_of_aside shifts_openTests fun _ => aside_openTests

theorem draining_batchLoad : Draining State.batchLoad := draining_batchCommand shifts_loadTests fun _ => aside_loadTests

theorem draining_batchCommit : Draining State.batchCommit :=
  draining_batchCommand shifts_commitTests fun _ => aside_commitTests

theorem draining_batchDiscard : Draining State.batchDiscard :=
  draining_batchCommand shifts_discardTests fun _ _ => aside_discardTests

theorem draining_freezeGroup : Draining State.freezeGroup :=
  draining_interrupting_of_aside shifts_freezeGroupTests fun s _ => aside_freezeGroupTests s

theorem draining_thawGroup : Draining State.thawGroup :=
  draining_interrupting_of_aside shifts_thawGroupTests fun s _ => aside_thawGroupTests s

theorem draining_freezeAll : Draining State.freezeAll :=
  draining_interrupting_of_aside shifts_freezeAllTests fun s _ => aside_freezeAllTests s

theorem draining_freezeRange : Draining State.freezeRange :=
  draining_interrupting_of_aside shifts_freezeRangeTests fun s _ => aside_freezeRangeTests s

theorem draining_domainSweep : Draining State.domainSweep :=
  draining_interrupting_of_aside shifts_domainSweepTests fun _ => aside_domainSweepTests

theorem draining_scrub : Draining State.scrub :=
  draining_interrupting_of_aside (fun s => shifts_startWalk s .scrub) fun _ hrunning => aside_startWalk hrunning .scrub

theorem draining_sweepSuspend : Draining State.sweepSuspend :=
  draining_interrupting_of_aside shifts_suspendTests fun _ => aside_suspendTests

theorem draining_sweepResume : Draining State.sweepResume :=
  draining_interrupting_of_aside shifts_resumeTests fun _ => aside_resumeTests

theorem draining_sweepCancel : Draining State.sweepCancel :=
  draining_interrupting fun _ hrunning _ => keepsDrains_cancelTests hrunning

theorem draining_forceDrain : Draining State.forceDrain :=
  draining_interrupting fun s _ _ => keepsDrains_forceDrainTests s

theorem draining_domainSet : Draining State.domainSet :=
  draining_interrupting_of_aside shifts_domainSetTests fun s _ => aside_domainSetTests s

theorem draining_requesterSet : Draining State.requesterSet :=
  draining_interrupting fun s _ _ => keepsDrains_requesterSetTests s

theorem draining_requesterReset : Draining State.requesterReset :=
  draining_interrupting fun s _ _ => keepsDrains_requesterResetTests s

theorem draining_clearErrors : Draining State.clearErrors := draining_interrupting fun _ _ _ => keepsDrains_elsewhere

theorem draining_tableReset : Draining State.tableReset :=
  draining_interrupting fun _ _ hclosed => keepsDrains_acceptTableReset hclosed

theorem draining_undefinedCommand : Draining State.undefinedCommand := keepsDrains_setStatus _

theorem draining_of_low : ∀ f ∈ lowEffects, Draining f := by
  simp only [lowEffects, List.forall_mem_cons]
  exact ⟨draining_batchOpen, draining_batchLoad, draining_batchCommit, draining_batchDiscard, draining_freezeGroup,
    draining_thawGroup, draining_freezeAll, draining_freezeRange, draining_domainSweep, draining_scrub,
    draining_sweepSuspend, draining_sweepResume, draining_sweepCancel, nofun⟩

theorem draining_of_high : ∀ f ∈ highEffects, Draining f := by
  simp only [highEffects, List.forall_mem_cons]
  exact ⟨draining_forceDrain, draining_domainSet, draining_requesterSet, draining_requesterReset, draining_clearErrors,
    draining_tableReset, draining_query keepsDrains_readEntryAnswer, draining_query_map _ _, draining_query_map _ _,
    draining_query_map _ _, draining_query_map _ _, draining_query_some _, draining_query_some _, nofun⟩

theorem draining_dispatch (code : Byte) : Draining (State.dispatch code) := by
  intro s
  rcases dispatch_cases code s with h | ⟨f, hf, h⟩
  · rw [h]
    exact keepsDrains_fullResetCommand s
  · have heffect : Draining f := by
      rcases hf with hlow | hhigh | rfl
      · exact draining_of_low f hlow
      · exact draining_of_high f hhigh
      · exact draining_undefinedCommand
    rw [h]
    exact (heffect s).trans (keepsDrains_byteTaken _)

end Sys2Proof.Machine
end

section
/-! SUPPORT. Every row of the command table but storage damage keeps the law of deadlines and the Drain List's law, and so
does every step (01 R20, 07 R125, R126, log 2). -/

namespace Sys2Proof.Machine

/-- A next state, if the outcome is one, keeps both laws. -/
def EndsKept (s : State) (o : Host.Outcome State Fault Refusal) : Prop := ∀ t, o = .next t → KeepsDrains s t

section Rows

variable {s : State}

theorem endsKept_next {t : State} (h : KeepsDrains s t) : EndsKept s (.next t) := by
  rintro u ⟨⟩
  exact h

theorem endsKept_same : EndsKept s (.next s) := endsKept_next (.refl s)

theorem endsKept_ite {c : Prop} [Decidable c] {a b : Host.Outcome State Fault Refusal} (ha : c → EndsKept s a)
    (hb : EndsKept s b) : EndsKept s (if c then a else b) := by
  split
  · exact ha ‹c›
  · exact hb

/-- A row that does something where its event arises, and nothing elsewhere (log 1). -/
theorem endsKept_ite_same {c : Prop} [Decidable c] {t : State} (h : c → KeepsDrains s t) :
    EndsKept s (if c then .next t else .next s) :=
  endsKept_ite (fun hc => endsKept_next (h hc)) endsKept_same

theorem endsKept_atCommandRegister {f : State → State} (hf : Draining f) : EndsKept s (atCommandRegister f s) :=
  endsKept_ite_same fun _ => (hf s).trans (keepsDrains_byteTaken _)

/-! ### The Resolve Port (03, 04 R71) -/

theorem endsKept_execResolve (r : ReqId) (a : Address) (d : Dir) (c : Bool) : EndsKept s (execResolve r a d c s) :=
  endsKept_ite_same fun _ => ((keepsDrains_resolveRequest _ s).trans (keepsDrains_deliver _ _ _)).settled s

theorem endsKept_execRelease (r : ReqId) (t : Tag) : EndsKept s (execRelease r t s) :=
  endsKept_ite
    (fun _ => endsKept_ite (fun _ => endsKept_next (keepsDrains_deliver _ _ _))
      (endsKept_next (((keepsDrains_releaseRequest r t s).trans (keepsDrains_deliver _ _ _)).settled s)))
    endsKept_same

theorem endsKept_execSlotReset (r : ReqId) : EndsKept s (execSlotReset r s) :=
  endsKept_ite
    (fun _ => endsKept_ite (fun _ => endsKept_next (keepsDrains_deliver _ _ _))
      (endsKept_next ((keepsDrains_slotResetRequest r s).settled s)))
    endsKept_same

theorem endsKept_execRspTaken : EndsKept s (execRspTaken s) := by
  unfold execRspTaken
  split
  · exact endsKept_next keepsDrains_elsewhere
  · exact endsKept_same
  · exact endsKept_same

/-! ### Clearings and deadlines (02 R32, R38, R39, 05 R93, 07 R132) -/

theorem endsKept_execRequesterClearingFree (r : ReqId) : EndsKept s (execRequesterClearingFree r s) := by
  refine endsKept_ite (fun _ => ?_) endsKept_same
  split
  · exact endsKept_next ((keepsDrains_freeClaim _ s).settled s)
  · exact endsKept_same

/-- A cleared requester is in no quarantine (02 R39). -/
theorem deadline_clearedRequester (d : RequesterDefault) (c : Clearing) : (clearedRequester d c).deadline = none := by
  cases c with
  | toDefaults => rfl
  | toDisabled domain limit => rfl

theorem endsKept_execRequesterClearingCompletion (r : ReqId) : EndsKept s (execRequesterClearingCompletion r s) := by
  unfold execRequesterClearingCompletion
  split
  · rename_i c _ _
    have hput : KeepsDrains s (s.putRequester r (clearedRequester s.requesters.defaults[r] c)) :=
      keepsDrains_putRequester fun d hd => by
        rw [deadline_clearedRequester] at hd
        contradiction
    exact endsKept_next (hput.trans keepsDrains_elsewhere)
  · exact endsKept_same

theorem endsKept_execQuarantineDeadlineExpiry (r : ReqId) : EndsKept s (execQuarantineDeadlineExpiry r s) :=
  endsKept_ite_same fun _ => (keepsDrains_putRequester fun _ hd => by contradiction).trans (keepsDrains_raise _ _)

theorem endsKept_execDiscardDeadlineExpiry (k : SlotIx) : EndsKept s (execDiscardDeadlineExpiry k s) := by
  unfold execDiscardDeadlineExpiry
  split
  · exact endsKept_ite_same fun _ =>
      (((keepsDrains_dropSlot k s).trans (keepsDrains_report _ _)).trans (keepsDrains_fault _ _ _)).settled s
  · exact endsKept_same
  · exact endsKept_same

/-- The drain that expires is that of an entry an item names (07 R132). -/
theorem endsKept_execDrainExpiry (p : Fin 16) : EndsKept s (execDrainExpiry p s) := by
  unfold execDrainExpiry
  split
  · rename_i d hd
    have hnamed : d.entry ∈ s.drainEntries := List.mem_map.2 ⟨d, List.mem_of_getElem? hd, rfl⟩
    exact endsKept_ite_same fun _ => ((keepsDrains_endDrain (.inr hnamed)).trans (keepsDrains_report _ _)).settled s
  · exact endsKept_same

/-! ### The commit (06 R112 to R121) -/

theorem endsKept_execCommitValidation : EndsKept s (execCommitValidation s) := by
  unfold execCommitValidation
  split
  · rename_i g n ops copies k tally hs
    split
    · rename_i op hop
      have hread := keepsDrains_readEntry .commit (opEntry op) s
      have hstands : (s.readEntry .commit (opEntry op)).batch.staging = .committing g n ops copies k tally := by
        rw [State.readEntry_batch, hs]
      dsimp only
      split
      · exact endsKept_next ((hread.trans (keepsDrains_rejectCommit _ _ _ _ _ _)).settled s)
      · rename_i hpasses
        exact endsKept_next ((hread.trans
          (keepsDrains_validated hstands hop rfl (not_revoking_of_judge_none hpasses))).settled s)
    · exact endsKept_same
  · exact endsKept_same

theorem endsKept_execCommitApplication : EndsKept s (execCommitApplication s) := by
  unfold execCommitApplication
  split
  · rename_i g n ops copies k tally hs
    refine endsKept_ite (fun hvalid => ?_) endsKept_same
    split
    · rename_i op c hop hc
      exact endsKept_next (keepsDrains_applied hs hvalid hop hc _)
    · exact endsKept_same
  · exact endsKept_same

theorem endsKept_execCommitCompletion : EndsKept s (execCommitCompletion s) := by
  unfold execCommitCompletion
  split
  · rename_i g n ops copies k tally hs
    refine endsKept_ite_same fun ⟨_, hall⟩ => ?_
    rw [hall] at hs
    exact (keepsDrains_endCommit (shifts_uncommitted (.completed hs) rfl rfl)).settled s
  · exact endsKept_same

/-! ### Walks (09 R153 to R156) -/

theorem endsKept_execSweepStep : EndsKept s (execSweepStep s) := by
  unfold execSweepStep
  split
  · exact endsKept_same
  · rename_i w hw
    split
    · rename_i d hkind
      exact endsKept_ite_same fun hstep => keepsDrains_sweepStepOf hw (stepping_not_suspended hstep) hkind
    · exact endsKept_same

theorem endsKept_execScrubStep : EndsKept s (execScrubStep s) := by
  unfold execScrubStep
  split
  · exact endsKept_same
  · rename_i w hw
    split
    · exact endsKept_ite_same fun hstep => keepsDrains_scrubStepOf hw (stepping_not_suspended hstep)
    · exact endsKept_same

theorem endsKept_execSweepRetake : EndsKept s (execSweepRetake s) := by
  unfold execSweepRetake
  split
  · exact endsKept_ite_same fun _ => keepsDrains_retake s
  · exact endsKept_same

/-! ### The load, resets and the register window (11, 12 R183 to R189) -/

theorem endsKept_execImageLoadDone : EndsKept s (execImageLoadDone s) :=
  endsKept_ite_same fun ⟨hloading, _⟩ => keepsDrains_imageLoadDone (hloading ▸ nofun)

theorem endsKept_execPreloadReloadDone : EndsKept s (execPreloadReloadDone s) :=
  endsKept_ite_same fun hreloading => keepsDrains_preloadReloadDone (hreloading ▸ nofun)

theorem endsKept_execPowerOn (b : Board) : EndsKept s (execPowerOn b s) := by
  have hboard : KeepsDrains s { s with board := b, resetLow := false, loads := 0 } := keepsDrains_elsewhere
  have hnone : NotOk .none := nofun
  exact endsKept_next (hboard.trans (keepsDrains_fullReset hnone _ _))

theorem endsKept_execResetAssert : EndsKept s (execResetAssert s) := by
  have hlow : KeepsDrains s { s with resetLow := true, loads := s.loads + 1 } := keepsDrains_elsewhere
  exact endsKept_ite (fun _ => endsKept_same)
    (endsKept_next (hlow.trans (keepsDrains_fullReset (notOk_abandonedResult s.batch.staging) _ _)))

theorem keepsDrains_writeAlert (v : Byte) (s : State) : KeepsDrains s (s.writeAlert v) := keepsDrains_elsewhere

theorem keepsDrains_writeSetting (f : Settings → Settings) (s : State) : KeepsDrains s (s.writeSetting f) := by
  unfold State.writeSetting
  split
  · exact .refl s
  · exact keepsDrains_elsewhere

theorem keepsDrains_storeByte (a : Nat) (v : Byte) (s : State) : KeepsDrains s (s.storeByte a v) := by
  unfold State.storeByte
  split
  · exact keepsDrains_writeAlert v s
  · split
    · exact keepsDrains_writeSetting _ s
    · split
      · exact keepsDrains_writeSetting _ s
      · split
        · exact keepsDrains_writeSetting _ s
        · split
          · exact keepsDrains_elsewhere
          · exact .refl s

theorem keepsDrains_writeNext (v : Byte) (s : State) : KeepsDrains s (s.writeNext v) := by
  unfold State.writeNext
  split
  · exact draining_dispatch v s
  · exact (keepsDrains_storeByte _ v s).trans (keepsDrains_byteTaken _)

theorem keepsDrains_readNext (b : ReadBus) (s : State) : KeepsDrains s (s.readNext b) := keepsDrains_elsewhere

theorem endsKept_writeAlert {c : Prop} [Decidable c] (v : Byte) :
    EndsKept s (if c then .next (s.writeAlert v).byteTaken else .next s) :=
  endsKept_ite_same fun _ => (keepsDrains_writeAlert v s).trans (keepsDrains_byteTaken _)

theorem endsKept_writeSetting {c : Prop} [Decidable c] (f : Settings → Settings) :
    EndsKept s (if c then .next (s.writeSetting f).byteTaken else .next s) :=
  endsKept_ite_same fun _ => (keepsDrains_writeSetting f s).trans (keepsDrains_byteTaken _)

/-! ### Every row but storage damage (95) -/

theorem endsKept_exec (c : Instr) (hc : ∀ i e, c ≠ .storageDamage i e) : EndsKept s (exec c s) := by
  cases c with
  | resolve r a d c => exact endsKept_execResolve r a d c
  | release r t => exact endsKept_execRelease r t
  | slotReset r => exact endsKept_execSlotReset r
  | malformedRequest k => exact endsKept_ite_same fun _ => keepsDrains_elsewhere
  | rspTaken => exact endsKept_execRspTaken
  | requesterClearingFree r => exact endsKept_execRequesterClearingFree r
  | requesterClearingCompletion r => exact endsKept_execRequesterClearingCompletion r
  | quarantineDeadlineExpiry r => exact endsKept_execQuarantineDeadlineExpiry r
  | discardDeadlineExpiry k => exact endsKept_execDiscardDeadlineExpiry k
  | drainExpiry p => exact endsKept_execDrainExpiry p
  | commitValidation => exact endsKept_execCommitValidation
  | commitApplication => exact endsKept_execCommitApplication
  | commitCompletion => exact endsKept_execCommitCompletion
  | sweepStep => exact endsKept_execSweepStep
  | scrubStep => exact endsKept_execScrubStep
  | sweepRetake => exact endsKept_execSweepRetake
  | imageLoadDone => exact endsKept_execImageLoadDone
  | preloadReloadDone => exact endsKept_execPreloadReloadDone
  | powerOn b => exact endsKept_execPowerOn b
  | resetAssert => exact endsKept_execResetAssert
  | resetRelease => exact endsKept_next keepsDrains_elsewhere
  | batchOpen => exact endsKept_atCommandRegister draining_batchOpen
  | batchLoad => exact endsKept_atCommandRegister draining_batchLoad
  | batchCommit => exact endsKept_atCommandRegister draining_batchCommit
  | batchDiscard => exact endsKept_atCommandRegister draining_batchDiscard
  | freezeGroup => exact endsKept_atCommandRegister draining_freezeGroup
  | thawGroup => exact endsKept_atCommandRegister draining_thawGroup
  | freezeAll => exact endsKept_atCommandRegister draining_freezeAll
  | freezeRange => exact endsKept_atCommandRegister draining_freezeRange
  | domainSweep => exact endsKept_atCommandRegister draining_domainSweep
  | scrub => exact endsKept_atCommandRegister draining_scrub
  | sweepSuspend => exact endsKept_atCommandRegister draining_sweepSuspend
  | sweepResume => exact endsKept_atCommandRegister draining_sweepResume
  | sweepCancel => exact endsKept_atCommandRegister draining_sweepCancel
  | forceDrain => exact endsKept_atCommandRegister draining_forceDrain
  | domainSet => exact endsKept_atCommandRegister draining_domainSet
  | requesterSet => exact endsKept_atCommandRegister draining_requesterSet
  | requesterReset => exact endsKept_atCommandRegister draining_requesterReset
  | clearErrors => exact endsKept_atCommandRegister draining_clearErrors
  | tableReset => exact endsKept_atCommandRegister draining_tableReset
  | readEntry => exact endsKept_atCommandRegister (draining_query keepsDrains_readEntryAnswer)
  | readClaim => exact endsKept_atCommandRegister (draining_query_map _ _)
  | readPending => exact endsKept_atCommandRegister (draining_query_map _ _)
  | readDrain => exact endsKept_atCommandRegister (draining_query_map _ _)
  | readRequester => exact endsKept_atCommandRegister (draining_query_map _ _)
  | readSweepResult => exact endsKept_atCommandRegister (draining_query_some _)
  | readCommitResult => exact endsKept_atCommandRegister (draining_query_some _)
  | fullReset => exact endsKept_ite_same fun _ => keepsDrains_fullResetCommand s
  | undefinedCommandCode c =>
    exact endsKept_ite (fun _ => endsKept_same) (endsKept_atCommandRegister draining_undefinedCommand)
  | eventRegisterRead b => exact endsKept_ite_same fun _ => keepsDrains_readNext b s
  | alertAssertedClear v => exact endsKept_writeAlert v
  | overrideClear v => exact endsKept_writeAlert v
  | overrideSet v => exact endsKept_writeAlert v
  | singleByteSettingWrite v => exact endsKept_writeSetting _
  | settingLowerByteWrite v => exact endsKept_writeSetting _
  | settingHigherByteWrite v => exact endsKept_writeSetting _
  | multiByteCaptureRead b => exact endsKept_ite_same fun _ => keepsDrains_readNext b s
  | pointerSet b v => exact endsKept_ite_same fun _ => keepsDrains_elsewhere
  | registerWrite b v => exact endsKept_ite_same fun _ => keepsDrains_writeNext v s
  | storageDamage i e => exact absurd rfl (hc i e)
  | transactionEnd x => exact endsKept_ite_same fun _ => keepsDrains_elsewhere

end Rows

/-! ### Every step -/

theorem keepsDrains_step {s t : State} (hdamage : ¬ DamageNext s) (h : step s = .next t) : KeepsDrains s t := by
  cases hp : s.pending with
  | cons c rest =>
    have hexec : exec c { s with pending := rest } = .next t := by
      rw [← h]
      unfold step
      rw [hp]
    have hc (i : EntryIx) (e : GrantEntry) : c ≠ .storageDamage i e := fun hce => hdamage ⟨i, e, rest, hce ▸ hp⟩
    have hfront : KeepsDrains s { s with pending := rest } := keepsDrains_elsewhere
    exact hfront.trans (endsKept_exec c hc t hexec)
  | nil =>
    cases hdue : s.dueEvent with
    | some c =>
      rw [step_of_expiry hp hdue] at h
      have hfree : KeepsDrains s { s with free := s.free + 1 } := keepsDrains_elsewhere
      exact hfree.trans (endsKept_exec c (dueEvent_ne_storageDamage hdue) t h)
    | none =>
      rw [step_of_no_expiry hp hdue] at h
      cases h
      exact keepsDrains_tick hdue

/-- Storage damage sets no deadline (01 R20). -/
theorem deadlineLaw_step {s t : State} (hs : DeadlineLaw s) (h : step s = .next t) : DeadlineLaw t := by
  by_cases hdamage : DamageNext s
  · obtain ⟨_, _, rfl⟩ := step_of_damage hdamage h
    exact hs
  · exact (keepsDrains_step hdamage h).deadlines hs

/-- Settles O59: time passes only while nothing is due, and an entry becomes or stops being REVOKING with its drain item. -/
theorem noDeadlineIsOverrun : Obligations.NoDeadlineIsOverrun :=
  ⟨fun _ _ => deadlineLaw_step, fun _ _ hstaging hwalk hdrain hdamage hstep =>
    (keepsDrains_step hdamage hstep).drains hstaging hwalk hdrain⟩

end Sys2Proof.Machine
end

section
/-! SUPPORT. The four freeze commands, each by its operand tests and by what it makes of the Freeze Map (08 R140 to R144). -/

namespace Sys2Proof.Machine

/-! ### The Freeze Range (08 R138, R144) -/

theorem insideRange_iff {r : Option FreezeRange} {g : Group} :
    insideRange r g = true ↔ ∃ x, r = some x ∧ x.lower ≤ g ∧ g ≤ x.upper := by
  cases r with
  | none => simp [insideRange]
  | some x => simp [insideRange]

/-- The marks of a range are added to those that stand. -/
theorem setRange_bit (l u g : Group) (f : FreezeMap) :
    (setRange l u f).marks.getLsbD g.val = (f.marks.getLsbD g.val || decide (l ≤ g ∧ g ≤ u)) := by
  unfold setRange
  rw [BitVec.getLsbD_or, rangeMarks_bit]

section Commands

variable {s : State}

/-! ### FREEZE_GROUP and THAW_GROUP (08 R141, R142) -/

theorem freezeGroupTests_badOperand (h : 127 < operandByte s 0) : s.freezeGroupTests = (s, .refused .badOperand) := by
  unfold State.freezeGroupTests
  rw [indexBelow_of_ge h]

theorem thawGroupTests_badOperand (h : 127 < operandByte s 0) : s.thawGroupTests = (s, .refused .badOperand) := by
  unfold State.thawGroupTests
  rw [indexBelow_of_ge h]

section Group

variable {g : Group} (hg : g.val = operandByte s 0)

include hg

theorem freezeGroupTests_locked (hlock : s.store.lockMark = some g) : s.freezeGroupTests = (s, .refused .busy) := by
  unfold State.freezeGroupTests
  rw [indexBelow_of_eq g hg]
  exact if_pos hlock

theorem freezeGroupTests_done (hlock : s.store.lockMark ≠ some g) : s.freezeGroupTests =
    ({ s with freeze := { s.freeze with marks := s.freeze.marks ||| (1#128 <<< g.val) } }, .done) := by
  unfold State.freezeGroupTests
  rw [indexBelow_of_eq g hg]
  exact if_neg hlock

theorem thawGroupTests_inRange (hinside : insideRange s.freeze.range g = true) :
    s.thawGroupTests = (s, .refused .inRange) := by
  unfold State.thawGroupTests
  rw [indexBelow_of_eq g hg]
  exact if_pos hinside

theorem thawGroupTests_done (hinside : ¬ insideRange s.freeze.range g = true) : s.thawGroupTests =
    ({ s with freeze := { s.freeze with marks := s.freeze.marks &&& ~~~(1#128 <<< g.val) } }, .done) := by
  unfold State.thawGroupTests
  rw [indexBelow_of_eq g hg]
  exact if_neg hinside

end Group

/-! ### FREEZE_ALL (08 R143) -/

theorem freezeAllTests_busy (h : committing s.batch.staging = true) : s.freezeAllTests = (s, .refused .busy) := if_pos h

theorem freezeAllTests_done (h : committing s.batch.staging = false) :
    s.freezeAllTests = ({ s with freeze := { s.freeze with marks := BitVec.allOnes 128 } }, .done) :=
  if_neg (Bool.not_eq_true _ ▸ h)

/-! ### FREEZE_RANGE (08 R144) -/

theorem freezeRangeTests_badOperand
    (h : 127 < operandByte s 0 ∨ 127 < operandByte s 1 ∨ operandByte s 1 < operandByte s 0) :
    s.freezeRangeTests = (s, .refused .badOperand) := by
  have hnone : rangeOf (operandByte s 0) (operandByte s 1) = none := rangeOf_none (by omega)
  unfold State.freezeRangeTests
  rw [hnone]

section Range

variable {l u : Group} (hl : l.val = operandByte s 0) (hu : u.val = operandByte s 1) (hle : l ≤ u)

include hl hu hle

theorem freezeRangeTests_alreadySet (hused : s.freeze.rangeUsed = true) :
    s.freezeRangeTests = (s, .refused .alreadySet) := by
  unfold State.freezeRangeTests
  rw [rangeOf_some hl hu hle]
  exact if_pos hused

theorem freezeRangeTests_done (hused : s.freeze.rangeUsed = false) :
    s.freezeRangeTests = ({ s with freeze := setRange l u s.freeze }, .done) := by
  unfold State.freezeRangeTests
  rw [rangeOf_some hl hu hle]
  exact if_neg (Bool.not_eq_true _ ▸ hused)

end Range

end Commands

/-- Settles O40: each command passes the gate, then its operands and the Freeze Map decide. -/
theorem freezeCommands : Obligations.FreezeCommands := by
  intro s hc hb marked inside
  have hgroup : exec .freezeGroup s = _ := atCommandRegister_interrupting hc hb State.freezeGroupTests
  have hthaw : exec .thawGroup s = _ := atCommandRegister_interrupting hc hb State.thawGroupTests
  have hall : exec .freezeAll s = _ := atCommandRegister_interrupting hc hb State.freezeAllTests
  have hrange : exec .freezeRange s = _ := atCommandRegister_interrupting hc hb State.freezeRangeTests
  rw [hgroup, hthaw, hall, hrange]
  refine ⟨fun h => ⟨?group_refused, ?thaw_refused⟩,
    fun g hg => ⟨fun hlock => ?group_busy, fun hlock => ?group_done, fun hin => ?thaw_inRange, fun hout => ?thaw_done⟩,
    fun h => ?all_busy, fun h => ?all_done, fun h => ?range_refused,
    fun l u hl hu hle => ⟨fun hused => ?range_spent, fun hused => ?range_done⟩⟩
  case group_refused => rw [freezeGroupTests_badOperand h]
  case thaw_refused => rw [thawGroupTests_badOperand h]
  case group_busy => rw [freezeGroupTests_locked hg hlock]
  case group_done => rw [freezeGroupTests_done hg hlock]
  case thaw_inRange => rw [thawGroupTests_inRange hg (insideRange_iff.2 hin)]
  case thaw_done => rw [thawGroupTests_done hg (mt insideRange_iff.1 hout)]
  case all_busy => rw [freezeAllTests_busy h]
  case all_done => rw [freezeAllTests_done h]
  case range_refused => rw [freezeRangeTests_badOperand h]
  case range_spent => rw [freezeRangeTests_alreadySet hl hu hle hused]
  case range_done =>
    rw [freezeRangeTests_done hl hu hle hused]
    exact ⟨_, rfl, rfl, fun g => setRange_bit l u g s.freeze⟩

end Sys2Proof.Machine
end

section
/-! SUPPORT. The laws of the Freeze Range and of the CLOSING domains, the operations that touch neither, and those that begin,
turn or end a walk (08 R138 to R144, 09 R150, R151, R161). -/

namespace Sys2Proof.Machine

-- One proof after another, as in the tests: each proof that waits for an earlier one would hold a thread of its own.
set_option Elab.async false

/-! ### The Freeze Range's law (08 R138) -/

/-- The law of the Freeze Map alone. -/
def RangeFrozen (f : FreezeMap) : Prop :=
  ∀ r, f.range = some r →
    f.rangeUsed = true ∧ ∀ g : Group, r.lower ≤ g → g ≤ r.upper → f.marks.getLsbD g.val = true

theorem freezeLaw_iff (s : State) : FreezeLaw s ↔ RangeFrozen s.freeze := Iff.rfl

/-- A range that is set is spent, and its groups are frozen (R144). -/
theorem rangeFrozen_setRange (l u : Group) (f : FreezeMap) : RangeFrozen (setRange l u f) := by
  rintro r ⟨⟩
  refine ⟨rfl, fun g hl hu => ?_⟩
  rw [setRange_bit, Bool.or_eq_true, decide_eq_true_eq]
  exact .inr ⟨hl, hu⟩

/-- Marks may become SET anywhere, and CLEAR outside the range. -/
theorem rangeFrozen_marked {f : FreezeMap} {m : BitVec 128} (hf : RangeFrozen f)
    (hm : ∀ g : Group, insideRange f.range g = true → f.marks.getLsbD g.val = true → m.getLsbD g.val = true) :
    RangeFrozen { f with marks := m } := by
  intro r hr
  obtain ⟨hused, hfrozen⟩ := hf r hr
  exact ⟨hused, fun g hl hu => hm g (insideRange_iff.2 ⟨r, hr, hl, hu⟩) (hfrozen g hl hu)⟩

theorem rangeFrozen_spent {f : FreezeMap} (hf : RangeFrozen f) : RangeFrozen { f with rangeUsed := true } := by
  intro r hr
  obtain ⟨_, hfrozen⟩ := hf r hr
  exact ⟨rfl, hfrozen⟩

theorem rangeFrozen_reset : RangeFrozen FreezeMap.reset := nofun

/-- The thaw of a group leaves the marks of the others. -/
theorem getLsbD_thawed {m : BitVec 128} {g h : Group} (hne : h ≠ g) (hm : m.getLsbD h.val = true) :
    (m &&& ~~~(1#128 <<< g.val)).getLsbD h.val = true := by
  have hval : h.val ≠ g.val := fun heq => hne (Fin.ext heq)
  have hbit : (1#128 <<< g.val).getLsbD h.val = false := by
    rw [BitVec.getLsbD_shiftLeft, BitVec.getLsbD_one]
    simp only [Bool.and_eq_false_iff, Bool.not_eq_false', decide_eq_true_eq, decide_eq_false_iff_not]
    omega
  rw [BitVec.getLsbD_and, BitVec.getLsbD_not, hm, hbit, decide_eq_true h.isLt]
  rfl

/-! ### The CLOSING law (09 R151) -/

/-- The domain a walk of this kind sweeps. -/
def sweptBy : WalkKind → Option Domain
  | .domainSweep d => some d
  | .scrub => none

/-- The domain of the domain sweep that is not IDLE. -/
def State.swept (s : State) : Option Domain := s.sweep.walk.bind fun w => sweptBy w.kind

theorem sweptBy_eq_some_iff {k : WalkKind} {d : Domain} : sweptBy k = some d ↔ k = .domainSweep d := by
  cases k <;> simp [sweptBy]

theorem swept_of_walk {s : State} {w : Walk} (h : s.sweep.walk = some w) : s.swept = sweptBy w.kind := by
  unfold State.swept
  rw [h]
  rfl

theorem swept_of_idle {s : State} (h : s.sweep.walk = none) : s.swept = none := by
  unfold State.swept
  rw [h]
  rfl

theorem closingLaw_iff (s : State) :
    ClosingLaw s ↔ ∀ d, (s.domainRecord d).closing = true ↔ s.swept = some d := by
  refine forall_congr' fun d => iff_congr Iff.rfl ?_
  simp only [State.swept, Option.bind_eq_some_iff, sweptBy_eq_some_iff]

/-! ### Operations that keep both laws -/

/-- The operation keeps the Freeze Range's law and the CLOSING law. -/
structure KeepsMarks (s t : State) : Prop where
  frozen : FreezeLaw s → FreezeLaw t
  closing : ClosingLaw s → ClosingLaw t

theorem KeepsMarks.refl (s : State) : KeepsMarks s s := ⟨id, id⟩

theorem KeepsMarks.trans {s t u : State} (hst : KeepsMarks s t) (htu : KeepsMarks t u) : KeepsMarks s u :=
  ⟨htu.frozen ∘ hst.frozen, htu.closing ∘ hst.closing⟩

/-- Each domain is CLOSING as before, and the domain swept is the same. -/
structure ClosingStands (s t : State) : Prop where
  closing : ∀ d, (t.domainRecord d).closing = (s.domainRecord d).closing := by exact fun _ => rfl
  swept : t.swept = s.swept := by rfl

theorem closingLaw_of_stands {s t : State} (h : ClosingStands s t) (hs : ClosingLaw s) : ClosingLaw t := by
  rw [closingLaw_iff] at hs ⊢
  intro d
  rw [h.closing, h.swept]
  exact hs d

/-- The Freeze Map alone changes, and keeps its law. -/
theorem keepsMarks_of_frozen {s t : State} (hfrozen : RangeFrozen s.freeze → RangeFrozen t.freeze)
    (hclosing : ClosingStands s t := by exact {}) : KeepsMarks s t :=
  ⟨hfrozen, closingLaw_of_stands hclosing⟩

/-- The Freeze Map stands. -/
theorem keepsMarks_of_stands {s t : State} (hclosing : ClosingStands s t) (hfreeze : t.freeze = s.freeze := by rfl) :
    KeepsMarks s t :=
  keepsMarks_of_frozen (fun hs => by rwa [hfreeze]) hclosing

theorem closing_of_domains {s t : State} (h : t.requesters.domains = s.requesters.domains) (d : Domain) :
    (t.domainRecord d).closing = (s.domainRecord d).closing := by
  unfold State.domainRecord
  rw [h]

/-- An operation on other fields, the live records and the Sweep Result among them. -/
theorem keepsMarks_elsewhere {s t : State} (hfreeze : t.freeze = s.freeze := by rfl)
    (hdomains : t.requesters.domains = s.requesters.domains := by rfl) (hwalk : t.sweep.walk = s.sweep.walk := by rfl) :
    KeepsMarks s t :=
  keepsMarks_of_stands ⟨closing_of_domains hdomains, by unfold State.swept; rw [hwalk]⟩ hfreeze

theorem keepsMarks_report (e : ErrorRecord) (s : State) : KeepsMarks s (s.report e) := keepsMarks_elsewhere

theorem keepsMarks_raise (k : EventKind) (s : State) : KeepsMarks s (s.raise k) := keepsMarks_elsewhere

/-! ### Requesters, slots, entries and claims (01 to 05) -/

theorem keepsMarks_readEntry (f : Finder) (i : EntryIx) (s : State) : KeepsMarks s (s.readEntry f i) :=
  keepsMarks_elsewhere (by simp) (by simp) (by simp)

theorem keepsMarks_fault (r : ReqId) (k : FaultKind) (s : State) : KeepsMarks s (s.fault r k) :=
  keepsMarks_elsewhere (by simp) (by simp) (by simp)

theorem keepsMarks_freeClaim (t : Tag) (s : State) : KeepsMarks s (s.freeClaim t) :=
  keepsMarks_elsewhere (by simp) (by simp) (by simp)

theorem keepsMarks_dropSlot (k : SlotIx) (s : State) : KeepsMarks s (s.dropSlot k) := by
  obtain ⟨_, _, _, _, _, _, h⟩ := State.dropSlot_shape k s
  rw [h]
  exact keepsMarks_elsewhere

theorem keepsMarks_endDrain (i : EntryIx) (s : State) : KeepsMarks s (s.endDrain i) := keepsMarks_elsewhere

theorem keepsMarks_acceptClearing (r : ReqId) (c : Clearing) (s : State) : KeepsMarks s (s.acceptClearing r c) := by
  have hdomains : (s.acceptClearing r c).requesters.domains = s.requesters.domains := by
    unfold State.acceptClearing
    rw [State.dropSlotsOf_requesters]
    rfl
  exact keepsMarks_elsewhere (by simp) hdomains (by simp)

theorem keepsMarks_deliver (r : ReqId) (a : Response) (s : State) : KeepsMarks s (s.deliver r a) := by
  have hanswered : KeepsMarks s { s with port := .answered a } := keepsMarks_elsewhere
  unfold State.deliver
  dsimp only
  split
  · exact hanswered.trans (keepsMarks_fault _ _ _)
  · exact hanswered

theorem keepsMarks_resolveRequest (q : Request) (s : State) : KeepsMarks s (s.resolveRequest q).1 := by
  obtain ⟨_, _, _, _, _, _, h⟩ := State.resolveRequest_shape q s
  rw [h]
  exact keepsMarks_elsewhere

theorem keepsMarks_releaseRequest (r : ReqId) (t : Tag) (s : State) : KeepsMarks s (s.releaseRequest r t).1 := by
  obtain ⟨_, _, _, _, _, _, h⟩ := State.releaseRequest_shape r t s
  rw [h]
  exact keepsMarks_elsewhere

theorem keepsMarks_slotResetRequest (r : ReqId) (s : State) : KeepsMarks s (s.slotResetRequest r) := by
  have hheld (u : State) : KeepsMarks u { u with port := .holding r } := keepsMarks_elsewhere
  unfold State.slotResetRequest
  dsimp only
  split
  · exact keepsMarks_elsewhere
  · exact (keepsMarks_acceptClearing r .toDefaults s).trans (hheld _)

/-! ### The walk (09 R150 to R161) -/

theorem domainRecord_putDomain_self (d : Domain) (x : DomainRecord) (s : State) : (s.putDomain d x).domainRecord d = x :=
  set_get_self s.requesters.domains d x

theorem domainRecord_putDomain_ne {d e : Domain} (h : e ≠ d) (x : DomainRecord) (s : State) :
    (s.putDomain d x).domainRecord e = s.domainRecord e :=
  set_get_ne s.requesters.domains x h

/-- A domain becomes CLOSING as its sweep begins, while no other is swept (R150). -/
theorem closingLaw_begun {s t : State} {d : Domain} {x : DomainRecord} (hidle : s.swept = none) (hx : x.closing = true)
    (hclosing : ∀ e, t.domainRecord e = (s.putDomain d x).domainRecord e) (hswept : t.swept = some d)
    (hs : ClosingLaw s) : ClosingLaw t := by
  rw [closingLaw_iff] at hs ⊢
  intro e
  rw [hclosing, hswept]
  by_cases he : e = d
  · rw [he, domainRecord_putDomain_self]
    exact iff_of_true hx rfl
  · rw [domainRecord_putDomain_ne he, hs e, hidle]
    exact iff_of_false nofun fun heq => he (Option.some.inj heq).symm

theorem keepsMarks_startWalk (k : WalkKind) (s : State) : KeepsMarks s (s.startWalk k).1 := by
  unfold State.startWalk
  split
  · exact .refl s
  · rename_i hfree
    obtain ⟨hsome, _⟩ := not_or.1 hfree
    have hidle : s.swept = none := swept_of_idle (Option.not_isSome_iff_eq_none.1 hsome)
    cases k with
    | scrub => exact keepsMarks_of_stands { swept := hidle.symm }
    | domainSweep d =>
      exact ⟨id, closingLaw_begun (d := d) (x := { s.domainRecord d with closing := true }) hidle rfl (fun _ => rfl) rfl⟩

/-- Walk and domain end together: a domain swept becomes OPEN (R151, R161). -/
theorem keepsMarks_endWalk {s : State} {w : Walk} (hw : s.swept = sweptBy w.kind) (x : WalkEnd) :
    KeepsMarks s (s.endWalk w x) := by
  refine ⟨fun hs => by rwa [freezeLaw_iff, State.endWalk_freeze], fun hs => ?_⟩
  rw [closingLaw_iff] at hs ⊢
  intro d
  have hrecord : (s.endWalk w x).domainRecord d = (s.reopen w.kind).domainRecord d := rfl
  rw [swept_of_idle (endWalk_walk w x s), hrecord]
  refine iff_of_false ?_ nofun
  by_cases hkind : w.kind = .domainSweep d
  · rw [hkind, reopen_domainRecord_closing]
    nofun
  · rw [reopen_domainRecord_other hkind, hs d, hw, sweptBy_eq_some_iff]
    exact hkind

theorem keepsMarks_cancelWalk (s : State) : KeepsMarks s s.cancelWalk := by
  unfold State.cancelWalk
  split
  · rename_i w hw
    exact keepsMarks_endWalk (swept_of_walk hw) _
  · exact .refl s

/-- The walk goes on in another state or at another cursor. -/
theorem keepsMarks_turned {s t : State} {k : WalkKind} (hs : s.swept = sweptBy k) (ht : t.swept = sweptBy k := by rfl)
    (hfreeze : t.freeze = s.freeze := by rfl) (hdomains : t.requesters.domains = s.requesters.domains := by rfl) :
    KeepsMarks s t :=
  keepsMarks_of_stands ⟨closing_of_domains hdomains, ht.trans hs.symm⟩ hfreeze

section Steps

variable {s : State} {w : Walk} (hw : s.swept = sweptBy w.kind)

include hw

theorem keepsMarks_advance (n : Nat) : KeepsMarks s (s.advance w n) := by
  have hended (x : WalkEnd) : KeepsMarks s ((s.updateReport fun r => { r with cursor := n }).endWalk w x) :=
    KeepsMarks.trans keepsMarks_elsewhere (keepsMarks_endWalk (s := s.updateReport _) hw x)
  unfold State.advance
  dsimp only
  split
  · exact hended _
  · split
    · exact hended _
    · exact keepsMarks_turned hw
    · exact keepsMarks_turned hw

theorem keepsMarks_lackItem : KeepsMarks s (s.lackItem w) := by
  unfold State.lackItem
  split
  · exact keepsMarks_endWalk hw _
  · exact keepsMarks_turned hw
  · exact keepsMarks_turned hw

/-- The cursor moves on after work on entries, slots, Drain List and counts. -/
theorem keepsMarks_advance_of_work {u : State} (n : Nat) (hfreeze : u.freeze = s.freeze := by simp [State.countPoisoned])
    (hrequesters : u.requesters = s.requesters := by simp [State.countPoisoned])
    (hwalk : u.sweep.walk = s.sweep.walk := by simp [State.countPoisoned]) : KeepsMarks s (u.advance w n) := by
  have hwork : KeepsMarks s u := keepsMarks_elsewhere hfreeze (by rw [hrequesters]) hwalk
  have hswept : u.swept = sweptBy w.kind := by
    rw [← hw]
    unfold State.swept
    rw [hwalk]
  exact hwork.trans (keepsMarks_advance hswept n)

end Steps

end Sys2Proof.Machine
end

section
/-! SUPPORT. The steps of the walk, the commit, the load of the image, the resets and the passing of time, as far as freeze
marks and CLOSING domains go (06 R112 to R121, 09 R152 to R156, 12 R183 to R189, log 2, log 5). -/

namespace Sys2Proof.Machine

-- One proof after another, as in the tests.
set_option Elab.async false

/-! ### Steps of a walk (09 R152 to R156) -/

section Steps

variable {s : State} {w : Walk} (hw : s.swept = sweptBy w.kind)

include hw

/-- An entry taken is read, perhaps written and counted; then the cursor moves on, or the walk lacks a drain item. -/
theorem keepsMarks_sweepTake (d : Domain) : KeepsMarks s (s.sweepTake w d) := by
  have hread : (s.readEntry .sweep w.cursor).swept = sweptBy w.kind := by
    unfold State.swept at hw ⊢
    rwa [State.readEntry_sweep]
  unfold State.sweepTake
  dsimp only
  split
  case h_1 => exact keepsMarks_advance_of_work hw _
  case h_2 => exact keepsMarks_advance_of_work hw _
  case h_3 =>
    split
    · exact keepsMarks_advance_of_work hw _
    · exact keepsMarks_advance_of_work hw _
  case h_4 =>
    split
    · split
      · exact keepsMarks_advance_of_work hw _
      · split
        · exact keepsMarks_advance_of_work hw _
        · split
          · exact keepsMarks_advance_of_work hw _
          · exact (keepsMarks_readEntry _ _ s).trans (keepsMarks_lackItem hread)
    · exact keepsMarks_advance_of_work hw _

theorem keepsMarks_sweepStepOf (d : Domain) : KeepsMarks s (s.sweepStepOf w d) := by
  unfold State.sweepStepOf
  split
  · exact keepsMarks_advance_of_work hw _
  · exact keepsMarks_sweepTake hw d

theorem keepsMarks_scrubStepOf : KeepsMarks s (s.scrubStepOf w) := by
  unfold State.scrubStepOf
  dsimp only
  split
  · exact keepsMarks_advance_of_work hw _
  · exact keepsMarks_advance_of_work hw _

end Steps

theorem keepsMarks_retake (s : State) : KeepsMarks s s.retake := by
  unfold State.retake
  split
  · rename_i w hw
    split
    · exact keepsMarks_sweepTake (w := { w with state := .running }) (swept_of_walk (w := w) hw) _
    · exact .refl s
  · exact .refl s

/-- The end of an event adds at most a retake. -/
theorem KeepsMarks.settled {s t : State} (h : KeepsMarks s t) (u : State) : KeepsMarks s (settle u t) := by
  rcases settle_cases u t with hsame | hretake
  · rwa [hsame]
  · rw [hretake]
    exact h.trans (keepsMarks_retake t)

/-! ### The commit (06 R112 to R121) -/

theorem keepsMarks_putStaging (x : Staging) (s : State) : KeepsMarks s (s.putStaging x) := keepsMarks_elsewhere

theorem keepsMarks_applyOp (op : BatchOp) (c : ValidatedCopy) (s : State) : KeepsMarks s (s.applyOp op c).1 :=
  keepsMarks_elsewhere (by simp) (by simp) (by simp)

/-- A commit ends, and the waiting slots are evaluated. -/
theorem keepsMarks_endCommit (r : CommitResult) (s : State) : KeepsMarks s (State.evaluateWaiting (s.closeCommit r)) :=
  keepsMarks_elsewhere (by simp) (by simp) (by simp)

theorem keepsMarks_rejectCommit (g : Group) (n p : Nat) (i : EntryIx) (x : RejectReason) (s : State) :
    KeepsMarks s (s.rejectCommit g n p i x) :=
  (keepsMarks_report _ s).trans (keepsMarks_endCommit _ _)

/-! ### The load, piece by piece (12 R183 to R186, 08 R139) -/

/-- The loader and the errors alone change. -/
theorem keepsMarks_loadCheck (s : State) : KeepsMarks s s.loadCheck := by
  obtain ⟨_, _, h⟩ := State.loadCheck_shape s
  rw [h]
  exact keepsMarks_elsewhere

theorem keepsMarks_reportSkipped (x : ImageItem) (n : Nat) (f : ImageFlags → ImageFlags) (s : State) :
    KeepsMarks s (s.reportSkipped x n f) := by
  rw [reportSkipped_eq]
  exact keepsMarks_elsewhere

theorem keepsMarks_putWork (w : LoadWork) (s : State) : KeepsMarks s (s.putWork w) := keepsMarks_elsewhere

/-- The Control section gives the miss policies and leaves the CLOSING domains (12 R184). -/
theorem keepsMarks_applyControl (c : ControlValues) (s : State) : KeepsMarks s (s.applyControl c) := by
  have hset : KeepsMarks s (s.setControl c) :=
    keepsMarks_of_stands { closing := fun d => by rw [setControl_domainRecord] }
  rw [applyControl_eq]
  exact hset.trans (keepsMarks_reportSkipped _ _ _ _)

theorem keepsMarks_loadControl (s : State) : KeepsMarks s s.loadControl := by
  unfold State.loadControl
  split
  · exact (keepsMarks_applyControl _ s).trans (keepsMarks_putWork _ _)
  · exact (keepsMarks_applyControl _ s).trans (keepsMarks_putWork _ _)
  · exact (keepsMarks_applyControl _ s).trans (keepsMarks_putWork _ _)

theorem keepsMarks_applyRequesters (v : RequesterValues) (s : State) : KeepsMarks s (s.applyRequesters v) := by
  have hset : KeepsMarks s (s.setRequesters v) := keepsMarks_elsewhere
  rw [applyRequesters_eq]
  exact hset.trans (keepsMarks_reportSkipped _ _ _ _)

theorem keepsMarks_loadRequesters (s : State) : KeepsMarks s s.loadRequesters := by
  unfold State.loadRequesters
  split
  · exact (keepsMarks_applyRequesters _ s).trans (keepsMarks_putWork _ _)
  · exact (keepsMarks_applyRequesters _ s).trans (keepsMarks_putWork _ _)
  · exact (keepsMarks_applyRequesters _ s).trans (keepsMarks_putWork _ _)

theorem keepsMarks_loadPreloadStart (s : State) : KeepsMarks s s.loadPreloadStart := by
  obtain ⟨_, h⟩ := State.loadPreloadStart_shape s
  rw [h]
  exact keepsMarks_elsewhere

theorem keepsMarks_loadPreloadPiece (l : List ImageWord) (m : List Nat) (n : Nat) (s : State) :
    KeepsMarks s (s.loadPreloadPiece l m n) := by
  obtain ⟨_, _, _, h⟩ := State.loadPreloadPiece_shape l m n s
  rw [h]
  exact keepsMarks_elsewhere

theorem keepsMarks_loadFromPreload (s : State) : KeepsMarks s s.loadFromPreload := by
  obtain ⟨_, _, _, h⟩ := State.loadFromPreload_shape s
  rw [h]
  exact keepsMarks_elsewhere

/-- A Freeze section not applied spends the acceptance. -/
theorem keepsMarks_skipFreeze (s : State) : KeepsMarks s s.skipFreeze := by
  rw [skipFreeze_eq]
  exact keepsMarks_of_frozen rangeFrozen_spent

/-- The Freeze section sets the range, or spends the acceptance, or is absent. -/
theorem keepsMarks_loadFreeze (s : State) : KeepsMarks s s.loadFreeze := by
  have hskip := (keepsMarks_skipFreeze s).trans (keepsMarks_putWork .finish _)
  unfold State.loadFreeze
  split
  · exact keepsMarks_putWork .finish s
  · exact hskip
  · split
    · split
      · exact keepsMarks_of_frozen fun _ => rangeFrozen_setRange _ _ _
      · exact hskip
    · exact hskip

theorem keepsMarks_loadPiece (s : State) : KeepsMarks s s.loadPiece := by
  unfold State.loadPiece
  split
  · exact keepsMarks_loadCheck s
  · exact keepsMarks_loadControl s
  · exact keepsMarks_loadRequesters s
  · exact keepsMarks_loadPreloadStart s
  · exact keepsMarks_loadPreloadPiece _ _ _ s
  · exact keepsMarks_loadFreeze s
  · exact .refl s
  · exact .refl s

theorem keepsMarks_loadRest (s : State) : KeepsMarks s s.loadRest := by
  have stage {c : Prop} [Decidable c] {u v w : State} (hu : KeepsMarks u v) (hv : KeepsMarks v w) :
      KeepsMarks u (if c then w else v) := by
    split
    · exact hu.trans hv
    · exact hu
  have hcheck : KeepsMarks s s.loadFromCheck := stage (.refl s) (keepsMarks_loadCheck s)
  have hcontrol : KeepsMarks s s.loadFromCheck.loadFromControl := stage hcheck (keepsMarks_loadControl _)
  have hrequesters : KeepsMarks s s.loadFromCheck.loadFromControl.loadFromRequesters :=
    stage hcontrol (keepsMarks_loadRequesters _)
  have hstart : KeepsMarks s s.loadFromCheck.loadFromControl.loadFromRequesters.loadFromPreloadStart :=
    stage hrequesters (keepsMarks_loadPreloadStart _)
  exact stage (hstart.trans (keepsMarks_loadFromPreload _)) (keepsMarks_loadFreeze _)

theorem keepsMarks_enterRunning (s : State) : KeepsMarks s s.enterRunning := keepsMarks_elsewhere

theorem keepsMarks_tick (s : State) : KeepsMarks s s.tick := by
  have hfree : KeepsMarks s { s with free := s.free + 1 } := keepsMarks_elsewhere
  have hload : KeepsMarks s s.loadTick := by
    rcases loadTick_cases s with h | ⟨_, h | h⟩
    · rw [h]
      exact .refl s
    · rwa [h]
    · rw [h]
      exact hfree.trans (keepsMarks_loadPiece _)
  rw [tick_eq]
  exact hload.trans keepsMarks_elsewhere

/-! ### Resets (12 R187, R188) -/

/-- After a full reset no range is present, every domain is OPEN and the engine IDLE. -/
theorem keepsMarks_fullReset (r : CommitResult) (x : Transaction) (s : State) : KeepsMarks s (s.fullReset r x) := by
  refine ⟨fun _ => rangeFrozen_reset, fun _ => (closingLaw_iff _).2 fun d => iff_of_false ?_ nofun⟩
  show ¬ (RequesterTable.reset.domains[d]).closing = true
  simp [RequesterTable.reset, DomainRecord.reset]

theorem keepsMarks_fullResetCommand (s : State) : KeepsMarks s s.fullResetCommand :=
  (keepsMarks_elsewhere (t := { s with loads := s.loads + 1 })).trans (keepsMarks_fullReset _ _ _)

/-- A table reset leaves the Freeze Map and cancels the walk. -/
theorem keepsMarks_acceptTableReset (s : State) : KeepsMarks s s.acceptTableReset := by
  have htables : KeepsMarks s s.resetTables := keepsMarks_elsewhere
  rw [acceptTableReset_eq_cancelWalk]
  exact htables.trans (keepsMarks_cancelWalk _)

end Sys2Proof.Machine
end

section
/-! SUPPORT. The host commands, as far as freeze marks and CLOSING domains go (06 R103 to R110, 08 R141 to R144, 09 R150 to
R160, 11 R181). -/

namespace Sys2Proof.Machine

-- One proof after another, as in the tests.
set_option Elab.async false

section Bodies

variable (s : State)

/-! ### The batch commands (06 R103 to R110) -/

theorem keepsMarks_abortBatch (x : AbortReason) : KeepsMarks s (s.abortBatch x) := keepsMarks_elsewhere

theorem keepsMarks_openTests : KeepsMarks s s.openTests.1 := by
  unfold State.openTests
  split
  · exact .refl s
  · split
    · exact .refl s
    · dsimp only
      split
      · exact .refl s
      · split
        · exact keepsMarks_abortBatch s _
        · exact keepsMarks_elsewhere

theorem keepsMarks_loadTests : KeepsMarks s s.loadTests.1 := by
  unfold State.loadTests
  split
  · exact .refl s
  · exact .refl s
  · exact keepsMarks_abortBatch s _
  · split
    · exact .refl s
    · split
      · exact keepsMarks_abortBatch s _
      · split
        · exact keepsMarks_abortBatch s _
        · exact keepsMarks_elsewhere

theorem keepsMarks_discardTests : KeepsMarks s s.discardTests.1 := by
  unfold State.discardTests
  split
  · exact .refl s
  · exact keepsMarks_elsewhere

theorem keepsMarks_commitTests : KeepsMarks s s.commitTests.1 := by
  unfold State.commitTests
  split
  · exact .refl s
  · exact keepsMarks_abortBatch s _
  · exact .refl s
  · split
    · exact keepsMarks_elsewhere
    · split
      · exact .refl s
      · exact keepsMarks_elsewhere

/-! ### The freeze commands (08 R141 to R144) -/

/-- FREEZE_GROUP clears no mark. -/
theorem keepsMarks_freezeGroupTests : KeepsMarks s s.freezeGroupTests.1 := by
  unfold State.freezeGroupTests
  split
  · exact .refl s
  · split
    · exact .refl s
    · refine keepsMarks_of_frozen fun hs => rangeFrozen_marked hs fun g _ hg => ?_
      rw [BitVec.getLsbD_or, hg, Bool.true_or]

/-- THAW_GROUP clears a mark outside the range. -/
theorem keepsMarks_thawGroupTests : KeepsMarks s s.thawGroupTests.1 := by
  unfold State.thawGroupTests
  split
  · exact .refl s
  · split
    · exact .refl s
    · rename_i houtside
      refine keepsMarks_of_frozen fun hs => rangeFrozen_marked hs fun g hinside hg => getLsbD_thawed ?_ hg
      rintro rfl
      exact houtside hinside

theorem keepsMarks_freezeAllTests : KeepsMarks s s.freezeAllTests.1 := by
  unfold State.freezeAllTests
  split
  · exact .refl s
  · refine keepsMarks_of_frozen fun hs => rangeFrozen_marked hs fun g _ _ => ?_
    rw [BitVec.getLsbD_allOnes, decide_eq_true g.isLt]

theorem keepsMarks_freezeRangeTests : KeepsMarks s s.freezeRangeTests.1 := by
  unfold State.freezeRangeTests
  split
  · exact .refl s
  · split
    · exact .refl s
    · exact keepsMarks_of_frozen fun _ => rangeFrozen_setRange _ _ _

/-! ### The walk commands (09 R150 to R160) -/

theorem keepsMarks_domainSweepTests : KeepsMarks s s.domainSweepTests.1 := by
  unfold State.domainSweepTests
  split
  · exact .refl s
  · exact keepsMarks_startWalk _ s

theorem keepsMarks_suspendTests : KeepsMarks s s.suspendTests.1 := by
  unfold State.suspendTests
  split
  · exact .refl s
  · rename_i w hw
    split
    · exact keepsMarks_turned (swept_of_walk hw)
    · exact keepsMarks_turned (swept_of_walk hw)
    · exact .refl s
    · exact .refl s

theorem keepsMarks_resumeTests : KeepsMarks s s.resumeTests.1 := by
  unfold State.resumeTests
  split
  · exact .refl s
  · rename_i w hw
    split
    · exact .refl s
    · split
      · exact .refl s
      · exact keepsMarks_turned (swept_of_walk hw)

theorem keepsMarks_cancelTests : KeepsMarks s s.cancelTests.1 := by
  unfold State.cancelTests
  split
  · exact .refl s
  · rename_i w hw
    split
    · exact keepsMarks_turned (swept_of_walk hw)
    · exact keepsMarks_endWalk (swept_of_walk hw) _
    · exact keepsMarks_endWalk (swept_of_walk hw) _
    · exact keepsMarks_endWalk (swept_of_walk hw) _

/-! ### FORCE_DRAIN, the requester commands and READ_ENTRY (07 R133, 02 R26, R34, R36, 11 R182) -/

theorem keepsMarks_forceDrainTests : KeepsMarks s s.forceDrainTests.1 := by
  unfold State.forceDrainTests
  split
  · exact .refl s
  · split
    · exact ((keepsMarks_endDrain _ s).trans (keepsMarks_raise _ _)).settled s
    · exact .refl s

/-- DOMAIN_SET writes the miss policy alone (02 R26). -/
theorem keepsMarks_domainSetTests : KeepsMarks s s.domainSetTests.1 := by
  unfold State.domainSetTests
  split
  · exact .refl s
  · rename_i d _
    split
    · exact .refl s
    · refine keepsMarks_of_stands { closing := fun e => ?_ }
      by_cases he : e = d
      · rw [he, domainRecord_putDomain_self]
      · rw [domainRecord_putDomain_ne he]

theorem keepsMarks_requesterSetTests : KeepsMarks s s.requesterSetTests.1 := by
  unfold State.requesterSetTests
  split
  · exact .refl s
  · rename_i o _
    split
    · exact .refl s
    · cases o.standing with
      | disabled =>
        dsimp only
        exact (keepsMarks_acceptClearing o.requester (.toDisabled o.domain o.limit) s).settled s
      | enabled => exact keepsMarks_elsewhere
      | quarantined => exact keepsMarks_elsewhere

theorem keepsMarks_requesterResetTests : KeepsMarks s s.requesterResetTests.1 := by
  unfold State.requesterResetTests
  split
  · exact .refl s
  · rename_i r _
    split
    · exact .refl s
    · dsimp only
      exact (keepsMarks_acceptClearing r .toDefaults s).settled s

variable {s} in
theorem keepsMarks_readEntryAnswer {u : State} {bytes : List Byte} (h : s.readEntryAnswer = some (u, bytes)) :
    KeepsMarks s u := by
  unfold State.readEntryAnswer at h
  split at h
  · contradiction
  · cases h
    exact (keepsMarks_readEntry _ _ s).settled s

end Bodies

/-! ### The gates of the commands (06 R107, 11 R181, R182) -/

/-- The effect of a command keeps both laws. -/
def Marking (f : State → State) : Prop := ∀ s, KeepsMarks s (f s)

theorem keepsMarks_setStatus (e : CommandEnd) (s : State) : KeepsMarks s (s.setStatus e) := keepsMarks_elsewhere

theorem keepsMarks_byteTaken (s : State) : KeepsMarks s s.byteTaken := keepsMarks_elsewhere

theorem keepsMarks_interrupt (s : State) : KeepsMarks s s.interrupt := by
  obtain ⟨_, _, h⟩ := State.interrupt_shape s
  rw [h]
  exact keepsMarks_elsewhere

theorem marking_interrupting {body : State → State × CommandEnd} (hbody : ∀ s, KeepsMarks s (body s).1) :
    Marking (State.interrupting body) := by
  intro s
  unfold State.interrupting
  split
  · exact keepsMarks_setStatus _ s
  · exact ((keepsMarks_interrupt s).trans (hbody _)).trans (keepsMarks_setStatus _ _)

theorem marking_batchCommand {body : State → State × CommandEnd} (hbody : ∀ s, KeepsMarks s (body s).1) :
    Marking (State.batchCommand body) := by
  intro s
  unfold State.batchCommand
  split
  · exact keepsMarks_setStatus _ s
  · exact (hbody s).trans (keepsMarks_setStatus _ _)

theorem marking_query {answer : State → Option (State × List Byte)}
    (hanswer : ∀ {s u : State} {bytes : List Byte}, answer s = some (u, bytes) → KeepsMarks s u) :
    Marking (State.query answer) := by
  intro s
  unfold State.query
  split
  · rename_i u bytes hu
    exact (hanswer hu).trans keepsMarks_elsewhere
  · exact keepsMarks_setStatus _ s

/-- A query that only looks. -/
theorem marking_query_map {α : Type} (index : State → Option α) (bytes : State → α → List Byte) :
    Marking (State.query (fun s => (index s).map (fun k => (s, bytes s k)))) := by
  refine marking_query fun {s u _} h => ?_
  obtain ⟨k, _, hk⟩ := Option.map_eq_some_iff.1 h
  cases hk
  exact .refl s

theorem marking_query_some (bytes : State → List Byte) : Marking (State.query (fun s => some (s, bytes s))) := by
  refine marking_query fun {s u _} h => ?_
  cases h
  exact .refl s

/-! ### The command table (11 R181) -/

theorem marking_of_low : ∀ f ∈ lowEffects, Marking f := by
  simp only [lowEffects, List.forall_mem_cons]
  exact ⟨marking_interrupting keepsMarks_openTests, marking_batchCommand keepsMarks_loadTests,
    marking_batchCommand keepsMarks_commitTests, marking_batchCommand keepsMarks_discardTests,
    marking_interrupting keepsMarks_freezeGroupTests, marking_interrupting keepsMarks_thawGroupTests,
    marking_interrupting keepsMarks_freezeAllTests, marking_interrupting keepsMarks_freezeRangeTests,
    marking_interrupting keepsMarks_domainSweepTests, marking_interrupting (keepsMarks_startWalk .scrub),
    marking_interrupting keepsMarks_suspendTests, marking_interrupting keepsMarks_resumeTests,
    marking_interrupting keepsMarks_cancelTests, nofun⟩

theorem marking_of_high : ∀ f ∈ highEffects, Marking f := by
  simp only [highEffects, List.forall_mem_cons]
  exact ⟨marking_interrupting keepsMarks_forceDrainTests, marking_interrupting keepsMarks_domainSetTests,
    marking_interrupting keepsMarks_requesterSetTests, marking_interrupting keepsMarks_requesterResetTests,
    marking_interrupting fun _ => keepsMarks_elsewhere, marking_interrupting keepsMarks_acceptTableReset,
    marking_query keepsMarks_readEntryAnswer, marking_query_map _ _, marking_query_map _ _, marking_query_map _ _,
    marking_query_map _ _, marking_query_some _, marking_query_some _, nofun⟩

theorem marking_undefinedCommand : Marking State.undefinedCommand := fun _ => keepsMarks_elsewhere

theorem marking_dispatch (code : Byte) : Marking (State.dispatch code) := by
  intro s
  rcases dispatch_cases code s with h | ⟨f, hf, h⟩
  · rw [h]
    exact keepsMarks_fullResetCommand s
  · have heffect : Marking f := by
      rcases hf with hlow | hhigh | rfl
      · exact marking_of_low f hlow
      · exact marking_of_high f hhigh
      · exact marking_undefinedCommand
    rw [h]
    exact (heffect s).trans (keepsMarks_byteTaken _)

end Sys2Proof.Machine
end

section
/-! SUPPORT. Every row of the command table, and so every step, keeps the Freeze Range's law and the CLOSING law (08 R138,
09 R151). -/

namespace Sys2Proof.Machine

-- One proof after another, as in the tests.
set_option Elab.async false

/-- A next state, if the outcome is one, keeps both laws. -/
def EndsMarked (s : State) (o : Host.Outcome State Fault Refusal) : Prop := ∀ t, o = .next t → KeepsMarks s t

section Rows

variable {s : State}

theorem endsMarked_next {t : State} (h : KeepsMarks s t) : EndsMarked s (.next t) := by
  rintro u ⟨⟩
  exact h

theorem endsMarked_same : EndsMarked s (.next s) := endsMarked_next (.refl s)

theorem endsMarked_ite {c : Prop} [Decidable c] {a b : Host.Outcome State Fault Refusal} (ha : EndsMarked s a)
    (hb : EndsMarked s b) : EndsMarked s (if c then a else b) := by
  split
  · exact ha
  · exact hb

/-- A row that does something where its event arises, and nothing elsewhere (log 1). -/
theorem endsMarked_ite_same {c : Prop} [Decidable c] {t : State} (h : KeepsMarks s t) :
    EndsMarked s (if c then .next t else .next s) :=
  endsMarked_ite (endsMarked_next h) endsMarked_same

theorem endsMarked_atCommandRegister {f : State → State} (hf : Marking f) : EndsMarked s (atCommandRegister f s) :=
  endsMarked_ite_same ((hf s).trans (keepsMarks_byteTaken _))

/-! ### The Resolve Port (03, 04 R71) -/

theorem endsMarked_execResolve (r : ReqId) (a : Address) (d : Dir) (c : Bool) :
    EndsMarked s (execResolve r a d c s) :=
  endsMarked_ite_same (((keepsMarks_resolveRequest _ s).trans (keepsMarks_deliver _ _ _)).settled s)

theorem endsMarked_execRelease (r : ReqId) (t : Tag) : EndsMarked s (execRelease r t s) :=
  endsMarked_ite
    (endsMarked_ite (endsMarked_next (keepsMarks_deliver _ _ _))
      (endsMarked_next (((keepsMarks_releaseRequest r t s).trans (keepsMarks_deliver _ _ _)).settled s)))
    endsMarked_same

theorem endsMarked_execSlotReset (r : ReqId) : EndsMarked s (execSlotReset r s) :=
  endsMarked_ite
    (endsMarked_ite (endsMarked_next (keepsMarks_deliver _ _ _))
      (endsMarked_next ((keepsMarks_slotResetRequest r s).settled s)))
    endsMarked_same

theorem endsMarked_execRspTaken : EndsMarked s (execRspTaken s) := by
  unfold execRspTaken
  split
  · exact endsMarked_next keepsMarks_elsewhere
  · exact endsMarked_same
  · exact endsMarked_same

/-! ### Clearings and deadlines (02 R38, R39, 05 R93, 07 R132) -/

theorem endsMarked_execRequesterClearingFree (r : ReqId) : EndsMarked s (execRequesterClearingFree r s) := by
  refine endsMarked_ite ?_ endsMarked_same
  split
  · exact endsMarked_next ((keepsMarks_freeClaim _ s).settled s)
  · exact endsMarked_same

theorem endsMarked_execRequesterClearingCompletion (r : ReqId) : EndsMarked s (execRequesterClearingCompletion r s) := by
  unfold execRequesterClearingCompletion
  split
  · exact endsMarked_next keepsMarks_elsewhere
  · exact endsMarked_same

theorem endsMarked_execDiscardDeadlineExpiry (k : SlotIx) : EndsMarked s (execDiscardDeadlineExpiry k s) := by
  unfold execDiscardDeadlineExpiry
  split
  · exact endsMarked_ite_same
      ((((keepsMarks_dropSlot k s).trans (keepsMarks_report _ _)).trans (keepsMarks_fault _ _ _)).settled s)
  · exact endsMarked_same
  · exact endsMarked_same

theorem endsMarked_execDrainExpiry (p : Fin 16) : EndsMarked s (execDrainExpiry p s) := by
  unfold execDrainExpiry
  split
  · exact endsMarked_ite_same (((keepsMarks_endDrain _ s).trans (keepsMarks_report _ _)).settled s)
  · exact endsMarked_same

/-! ### The commit (06 R112 to R121) -/

theorem endsMarked_execCommitValidation : EndsMarked s (execCommitValidation s) := by
  unfold execCommitValidation
  split
  · split
    · rename_i op _
      have hread := keepsMarks_readEntry .commit (opEntry op) s
      dsimp only
      split
      · exact endsMarked_next ((hread.trans (keepsMarks_rejectCommit _ _ _ _ _ _)).settled s)
      · exact endsMarked_next ((hread.trans (keepsMarks_putStaging _ _)).settled s)
    · exact endsMarked_same
  · exact endsMarked_same

theorem endsMarked_execCommitApplication : EndsMarked s (execCommitApplication s) := by
  unfold execCommitApplication
  split
  · refine endsMarked_ite ?_ endsMarked_same
    split
    · exact endsMarked_next ((keepsMarks_applyOp _ _ s).trans (keepsMarks_putStaging _ _))
    · exact endsMarked_same
  · exact endsMarked_same

theorem endsMarked_execCommitCompletion : EndsMarked s (execCommitCompletion s) := by
  unfold execCommitCompletion
  split
  · exact endsMarked_ite_same ((keepsMarks_endCommit _ s).settled s)
  · exact endsMarked_same

/-! ### Walks (09 R153 to R156) -/

theorem endsMarked_execSweepStep : EndsMarked s (execSweepStep s) := by
  unfold execSweepStep
  split
  · exact endsMarked_same
  · rename_i w hw
    split
    · exact endsMarked_ite_same (keepsMarks_sweepStepOf (swept_of_walk hw) _)
    · exact endsMarked_same

theorem endsMarked_execScrubStep : EndsMarked s (execScrubStep s) := by
  unfold execScrubStep
  split
  · exact endsMarked_same
  · rename_i w hw
    split
    · exact endsMarked_ite_same (keepsMarks_scrubStepOf (swept_of_walk hw))
    · exact endsMarked_same

theorem endsMarked_execSweepRetake : EndsMarked s (execSweepRetake s) := by
  unfold execSweepRetake
  split
  · exact endsMarked_ite_same (keepsMarks_retake s)
  · exact endsMarked_same

/-! ### Resets and the register window (11, 12 R187) -/

theorem endsMarked_execPowerOn (b : Board) : EndsMarked s (execPowerOn b s) := by
  have hboard : KeepsMarks s { s with board := b, resetLow := false, loads := 0 } := keepsMarks_elsewhere
  exact endsMarked_next (hboard.trans (keepsMarks_fullReset _ _ _))

theorem endsMarked_execResetAssert : EndsMarked s (execResetAssert s) := by
  have hlow : KeepsMarks s { s with resetLow := true, loads := s.loads + 1 } := keepsMarks_elsewhere
  exact endsMarked_ite endsMarked_same (endsMarked_next (hlow.trans (keepsMarks_fullReset _ _ _)))

theorem keepsMarks_writeSetting (f : Settings → Settings) (s : State) : KeepsMarks s (s.writeSetting f) := by
  unfold State.writeSetting
  split
  · exact .refl s
  · exact keepsMarks_elsewhere

theorem keepsMarks_storeByte (a : Nat) (v : Byte) (s : State) : KeepsMarks s (s.storeByte a v) := by
  unfold State.storeByte
  split
  · exact keepsMarks_elsewhere
  · split
    · exact keepsMarks_writeSetting _ s
    · split
      · exact keepsMarks_writeSetting _ s
      · split
        · exact keepsMarks_writeSetting _ s
        · split
          · exact keepsMarks_elsewhere
          · exact .refl s

theorem keepsMarks_writeNext (v : Byte) (s : State) : KeepsMarks s (s.writeNext v) := by
  unfold State.writeNext
  split
  · exact marking_dispatch v s
  · exact (keepsMarks_storeByte _ v s).trans (keepsMarks_byteTaken _)

theorem endsMarked_writeSetting {c : Prop} [Decidable c] (f : Settings → Settings) :
    EndsMarked s (if c then .next (s.writeSetting f).byteTaken else .next s) :=
  endsMarked_ite_same ((keepsMarks_writeSetting f s).trans (keepsMarks_byteTaken _))

/-- A row whose event touches neither Freeze Map, CLOSING domains nor walk. -/
theorem endsMarked_elsewhere {c : Prop} [Decidable c] {t : State} (hfreeze : t.freeze = s.freeze := by rfl)
    (hdomains : t.requesters.domains = s.requesters.domains := by rfl) (hwalk : t.sweep.walk = s.sweep.walk := by rfl) :
    EndsMarked s (if c then .next t else .next s) :=
  endsMarked_ite_same (keepsMarks_elsewhere hfreeze hdomains hwalk)

/-! ### Every row (95) -/

theorem endsMarked_exec (c : Instr) : EndsMarked s (exec c s) := by
  cases c with
  | resolve r a d c => exact endsMarked_execResolve r a d c
  | release r t => exact endsMarked_execRelease r t
  | slotReset r => exact endsMarked_execSlotReset r
  | malformedRequest k => exact endsMarked_elsewhere
  | rspTaken => exact endsMarked_execRspTaken
  | requesterClearingFree r => exact endsMarked_execRequesterClearingFree r
  | requesterClearingCompletion r => exact endsMarked_execRequesterClearingCompletion r
  | quarantineDeadlineExpiry r => exact endsMarked_elsewhere
  | discardDeadlineExpiry k => exact endsMarked_execDiscardDeadlineExpiry k
  | drainExpiry p => exact endsMarked_execDrainExpiry p
  | commitValidation => exact endsMarked_execCommitValidation
  | commitApplication => exact endsMarked_execCommitApplication
  | commitCompletion => exact endsMarked_execCommitCompletion
  | sweepStep => exact endsMarked_execSweepStep
  | scrubStep => exact endsMarked_execScrubStep
  | sweepRetake => exact endsMarked_execSweepRetake
  | imageLoadDone => exact endsMarked_ite_same ((keepsMarks_loadRest s).trans (keepsMarks_enterRunning _))
  | preloadReloadDone => exact endsMarked_ite_same ((keepsMarks_loadFromPreload s).trans (keepsMarks_enterRunning _))
  | powerOn b => exact endsMarked_execPowerOn b
  | resetAssert => exact endsMarked_execResetAssert
  | resetRelease => exact endsMarked_next keepsMarks_elsewhere
  | batchOpen => exact endsMarked_atCommandRegister (marking_interrupting keepsMarks_openTests)
  | batchLoad => exact endsMarked_atCommandRegister (marking_batchCommand keepsMarks_loadTests)
  | batchCommit => exact endsMarked_atCommandRegister (marking_batchCommand keepsMarks_commitTests)
  | batchDiscard => exact endsMarked_atCommandRegister (marking_batchCommand keepsMarks_discardTests)
  | freezeGroup => exact endsMarked_atCommandRegister (marking_interrupting keepsMarks_freezeGroupTests)
  | thawGroup => exact endsMarked_atCommandRegister (marking_interrupting keepsMarks_thawGroupTests)
  | freezeAll => exact endsMarked_atCommandRegister (marking_interrupting keepsMarks_freezeAllTests)
  | freezeRange => exact endsMarked_atCommandRegister (marking_interrupting keepsMarks_freezeRangeTests)
  | domainSweep => exact endsMarked_atCommandRegister (marking_interrupting keepsMarks_domainSweepTests)
  | scrub => exact endsMarked_atCommandRegister (marking_interrupting (keepsMarks_startWalk .scrub))
  | sweepSuspend => exact endsMarked_atCommandRegister (marking_interrupting keepsMarks_suspendTests)
  | sweepResume => exact endsMarked_atCommandRegister (marking_interrupting keepsMarks_resumeTests)
  | sweepCancel => exact endsMarked_atCommandRegister (marking_interrupting keepsMarks_cancelTests)
  | forceDrain => exact endsMarked_atCommandRegister (marking_interrupting keepsMarks_forceDrainTests)
  | domainSet => exact endsMarked_atCommandRegister (marking_interrupting keepsMarks_domainSetTests)
  | requesterSet => exact endsMarked_atCommandRegister (marking_interrupting keepsMarks_requesterSetTests)
  | requesterReset => exact endsMarked_atCommandRegister (marking_interrupting keepsMarks_requesterResetTests)
  | clearErrors => exact endsMarked_atCommandRegister (marking_interrupting fun _ => keepsMarks_elsewhere)
  | tableReset => exact endsMarked_atCommandRegister (marking_interrupting keepsMarks_acceptTableReset)
  | readEntry => exact endsMarked_atCommandRegister (marking_query keepsMarks_readEntryAnswer)
  | readClaim => exact endsMarked_atCommandRegister (marking_query_map _ _)
  | readPending => exact endsMarked_atCommandRegister (marking_query_map _ _)
  | readDrain => exact endsMarked_atCommandRegister (marking_query_map _ _)
  | readRequester => exact endsMarked_atCommandRegister (marking_query_map _ _)
  | readSweepResult => exact endsMarked_atCommandRegister (marking_query_some _)
  | readCommitResult => exact endsMarked_atCommandRegister (marking_query_some _)
  | fullReset => exact endsMarked_ite_same (keepsMarks_fullResetCommand s)
  | undefinedCommandCode c => exact endsMarked_ite endsMarked_same (endsMarked_atCommandRegister marking_undefinedCommand)
  | eventRegisterRead b => exact endsMarked_elsewhere
  | alertAssertedClear v => exact endsMarked_elsewhere
  | overrideClear v => exact endsMarked_elsewhere
  | overrideSet v => exact endsMarked_elsewhere
  | singleByteSettingWrite v => exact endsMarked_writeSetting _
  | settingLowerByteWrite v => exact endsMarked_writeSetting _
  | settingHigherByteWrite v => exact endsMarked_writeSetting _
  | multiByteCaptureRead b => exact endsMarked_elsewhere
  | pointerSet b v => exact endsMarked_elsewhere
  | registerWrite b v => exact endsMarked_ite_same (keepsMarks_writeNext v s)
  | storageDamage i e => exact endsMarked_next keepsMarks_elsewhere
  | transactionEnd x => exact endsMarked_elsewhere

end Rows

/-! ### Every step -/

theorem keepsMarks_step {s t : State} (h : step s = .next t) : KeepsMarks s t := by
  cases hp : s.pending with
  | cons c rest =>
    have hfront : KeepsMarks s { s with pending := rest } := keepsMarks_elsewhere
    have hexec : exec c { s with pending := rest } = .next t := by
      rw [← h]
      unfold step
      rw [hp]
    exact hfront.trans (endsMarked_exec c t hexec)
  | nil =>
    cases hdue : s.dueEvent with
    | some c =>
      have hfree : KeepsMarks s { s with free := s.free + 1 } := keepsMarks_elsewhere
      rw [step_of_expiry hp hdue] at h
      exact hfree.trans (endsMarked_exec c t h)
    | none =>
      rw [step_of_no_expiry hp hdue] at h
      cases h
      exact keepsMarks_tick s

/-- Settles O53: a group of the range is never thawed, and a domain is CLOSING from the start of its sweep to its end. -/
theorem freezeAndClosingLawsHold : Obligations.FreezeAndClosingLawsHold :=
  ⟨fun _ _ hs hstep => (keepsMarks_step hstep).frozen hs, fun _ _ hs hstep => (keepsMarks_step hstep).closing hs⟩

end Sys2Proof.Machine
end

section
/-! SUPPORT. The Sweep Engine: the end of a walk, its cursor, a sweep's write, and the steps made of them (09 R149 to
R161). -/

namespace Sys2Proof.Machine

/-! ### The end of a walk (09 R151, R161) -/

/-- The Sweep Result is written, the engine is IDLE, SWEEP_DONE is raised. -/
def State.closeWalk (ending : WalkEnd) (s : State) : State :=
  { s with
    sweep := ⟨none, s.sweep.result.map (fun r => { r with ending := ending })⟩
    errors := raiseEvent .sweepDone s.errors }

/-- What a walk's end does beyond opening the domain of a domain sweep. -/
theorem endWalk_eq (w : Walk) (ending : WalkEnd) (s : State) :
    s.endWalk w ending = (s.reopen w.kind).closeWalk ending := rfl

theorem endWalk_scrub {w : Walk} (hkind : w.kind = .scrub) (ending : WalkEnd) (s : State) :
    s.endWalk w ending = s.closeWalk ending := by
  rw [endWalk_eq, hkind]
  rfl

theorem endWalk_domainSweep {w : Walk} {d : Domain} (hkind : w.kind = .domainSweep d) (ending : WalkEnd) (s : State) :
    s.endWalk w ending = (s.putDomain d { s.domainRecord d with closing := false }).closeWalk ending := by
  rw [endWalk_eq, hkind]
  rfl

/-! ### The cursor moves on (09 R158, R161) -/

section Cursor

variable {w : Walk} {s : State} {next : Nat}

theorem advance_past (h : 4096 ≤ next) :
    s.advance w next = (s.updateReport (fun r => { r with cursor := next })).endWalk w .complete := by
  unfold State.advance
  rw [indexBelow_of_ge h]

theorem advance_running {i : EntryIx} (hi : i.val = next) (hstate : w.state = .running) :
    s.advance w next = (s.updateReport (fun r => { r with cursor := next })).walkIn .running { w with cursor := i } := by
  unfold State.advance
  rw [indexBelow_of_eq i hi, hstate]
  rfl

theorem advance_suspending {i : EntryIx} (hi : i.val = next) (hstate : w.state = .suspending false) :
    s.advance w next = (s.updateReport (fun r => { r with cursor := next })).walkIn .suspended { w with cursor := i } := by
  unfold State.advance
  rw [indexBelow_of_eq i hi, hstate]
  rfl

theorem advance_cancelling (h : next < 4096) (hstate : w.state = .suspending true) :
    s.advance w next = (s.updateReport (fun r => { r with cursor := next })).endWalk w .cancelled := by
  unfold State.advance
  rw [indexBelow_of_eq ⟨next, h⟩ rfl, hstate]

end Cursor

/-! ### A sweep's write (09 R153, 05 R95) -/

/-- The READY slot holds an answer without a claim for the entry. -/
theorem isStale_iff (i : EntryIx) (x : Slot) :
    (isReady x && slotPage x == some i && slotTag x == none) = true ↔ ∃ q a d, x = .ready q i a d ∧ a.tag = none := by
  cases x with
  | empty => simp [isReady]
  | waiting q j => simp [isReady]
  | ready q j a d => simp [isReady, slotPage, slotTag]

theorem emptyStale_get (i : EntryIx) (q : PendingQueue) (k : SlotIx) : (emptyStale i q)[k] =
    if isReady q[k] && slotPage q[k] == some i && slotTag q[k] == none then .empty else q[k] :=
  tabulate_get _ k.val k.isLt

theorem emptyStale_of_stale {i : EntryIx} {queue : PendingQueue} {k : SlotIx}
    (h : ∃ q a d, queue[k] = .ready q i a d ∧ a.tag = none) : (emptyStale i queue)[k] = .empty := by
  rw [emptyStale_get, if_pos ((isStale_iff i _).2 h)]

theorem emptyStale_of_not_stale {i : EntryIx} {queue : PendingQueue} {k : SlotIx}
    (h : ¬ ∃ q a d, queue[k] = .ready q i a d ∧ a.tag = none) : (emptyStale i queue)[k] = queue[k] := by
  rw [emptyStale_get, if_neg (mt (isStale_iff i _).1 h)]

/-- A write with good parity (01 R13, R15). -/
theorem rewriteEntry_good (e : GrantEntry) (base x : Contents) : rewriteEntry e base x false =
    ⟨x, e.claimCount, if base = x then e.generation else e.generation + 1#16, evenParity x⟩ := by
  simp [rewriteEntry]

theorem sweepWrite_eq (i : EntryIx) (x : Contents) (s : State) : s.sweepWrite i x =
    { s.putEntry i (rewriteEntry (s.entry i) (s.entry i).contents x false) with queue := emptyStale i s.queue } := rfl

/-- Settles O27: the end by the walk's kind, the cursor by the walk's state, and the write by its entry and its slots. -/
theorem walkBookkeeping : Obligations.WalkBookkeeping := by
  refine ⟨fun w s => ⟨fun ending => ⟨fun hkind => ?scrub_ends, fun d hkind => ?sweep_ends⟩,
      fun next => ⟨fun h => ?past, fun i hi hstate => ?runs, fun i hi hstate => ?suspends, fun h hstate => ?cancels⟩⟩,
    fun i x s => ⟨?written, fun k q a d hslot htag => ?emptied, fun k hslot => ?stands, rfl⟩⟩
  case scrub_ends => exact endWalk_scrub hkind ending s
  case sweep_ends => exact endWalk_domainSweep hkind ending s
  case past => exact advance_past h
  case runs => exact advance_running hi hstate
  case suspends => exact advance_suspending hi hstate
  case cancels => exact advance_cancelling h hstate
  case written =>
    rw [← rewriteEntry_good]
    exact sweepWrite_eq i x s
  case emptied => exact emptyStale_of_stale ⟨q, a, d, hslot, htag⟩
  case stands => exact emptyStale_of_not_stale fun ⟨q, a, d, hready, htag⟩ => hslot q a d hready htag

/-! ### A domain sweep takes an entry (09 R153, R154, R158) -/

/-- What becomes of a LIVE entry that names the domain: other domains are left, no claim is left, a drain item is free for
it, or none is. -/
def State.sweepLive (w : Walk) (d : Domain) (p : Placement) (u : State) : State :=
  if withoutDomain d p.domains ≠ 0#8 then
    ((u.sweepWrite w.cursor (.live { p with domains := withoutDomain d p.domains })).updateReport
      (updateCounts (fun c => { c with changed := c.changed + 1 }))).advance w (w.cursor.val + 1)
  else if (u.entry w.cursor).claimCount.val = 0 then
    ((u.sweepWrite w.cursor .vacant).updateReport
      (updateCounts (fun c => { c with changed := c.changed + 1, vacated := c.vacated + 1 }))).advance w (w.cursor.val + 1)
  else if u.drain.length < 16 then
    (((u.sweepWrite w.cursor (.revoking { p with domains := 0#8 })).addDrain w.cursor).updateReport
      (updateCounts (fun c => { c with changed := c.changed + 1, draining := c.draining + 1 }))).advance w (w.cursor.val + 1)
  else u.lackItem w

section Take

variable {w : Walk} {d : Domain} {s u : State} {p : Placement} (hread : s.readEntry .sweep w.cursor = u)

include hread

theorem sweepTake_poisoned (h : (u.entry w.cursor).contents = .poisoned) :
    s.sweepTake w d = u.countPoisoned.advance w (w.cursor.val + 1) := by
  unfold State.sweepTake
  dsimp only
  rw [hread, h]

theorem sweepTake_vacant (h : (u.entry w.cursor).contents = .vacant) :
    s.sweepTake w d = u.advance w (w.cursor.val + 1) := by
  unfold State.sweepTake
  dsimp only
  rw [hread, h]

/-- A REVOKING entry that names the domain loses it and goes on draining, whatever domains are left. -/
theorem sweepTake_revoking (h : (u.entry w.cursor).contents = .revoking p) :
    s.sweepTake w d = if inSet d p.domains then
      ((u.sweepWrite w.cursor (.revoking { p with domains := withoutDomain d p.domains })).updateReport
        (updateCounts (fun c => { c with changed := c.changed + 1 }))).advance w (w.cursor.val + 1)
    else u.advance w (w.cursor.val + 1) := by
  unfold State.sweepTake
  dsimp only
  rw [hread, h]

theorem sweepTake_live (h : (u.entry w.cursor).contents = .live p) :
    s.sweepTake w d = if inSet d p.domains then u.sweepLive w d p else u.advance w (w.cursor.val + 1) := by
  unfold State.sweepTake
  dsimp only
  rw [hread, h]
  rfl

/-- An entry of other domains alone is passed over. -/
theorem sweepTake_outside (h : (u.entry w.cursor).contents = .live p ∨ (u.entry w.cursor).contents = .revoking p)
    (hd : inSet d p.domains = false) : s.sweepTake w d = u.advance w (w.cursor.val + 1) := by
  obtain h | h := h
  · exact (sweepTake_live hread h).trans (if_neg (Bool.not_eq_true _ ▸ hd))
  · exact (sweepTake_revoking hread h).trans (if_neg (Bool.not_eq_true _ ▸ hd))

end Take

section Live

variable {w : Walk} {d : Domain} {p : Placement} {u : State}

/-- Domains are left. -/
theorem sweepLive_narrowed (hrest : withoutDomain d p.domains ≠ 0#8) : u.sweepLive w d p =
    ((u.sweepWrite w.cursor (.live { p with domains := withoutDomain d p.domains })).updateReport
      (updateCounts (fun c => { c with changed := c.changed + 1 }))).advance w (w.cursor.val + 1) :=
  if_pos hrest

/-- No domain and no claim is left. -/
theorem sweepLive_vacated (hrest : withoutDomain d p.domains = 0#8) (hcount : (u.entry w.cursor).claimCount = 0) :
    u.sweepLive w d p = ((u.sweepWrite w.cursor .vacant).updateReport
      (updateCounts (fun c => { c with changed := c.changed + 1, vacated := c.vacated + 1 }))).advance w
        (w.cursor.val + 1) := by
  unfold State.sweepLive
  rw [if_neg (not_not.2 hrest), if_pos (Fin.val_eq_zero_iff.2 hcount)]

/-- Claims are left, and a drain item is free. -/
theorem sweepLive_drained (hrest : withoutDomain d p.domains = 0#8) (hcount : (u.entry w.cursor).claimCount ≠ 0)
    (hroom : u.drain.length < 16) : u.sweepLive w d p =
      (((u.sweepWrite w.cursor (.revoking { p with domains := withoutDomain d p.domains })).addDrain w.cursor).updateReport
        (updateCounts (fun c => { c with changed := c.changed + 1, draining := c.draining + 1 }))).advance w
          (w.cursor.val + 1) := by
  unfold State.sweepLive
  rw [if_neg (not_not.2 hrest), if_neg (Fin.val_ne_zero_iff.2 hcount), if_pos hroom, hrest]

/-- Claims are left, and no drain item is free: nothing is written. -/
theorem sweepLive_lacking (hrest : withoutDomain d p.domains = 0#8) (hcount : (u.entry w.cursor).claimCount ≠ 0)
    (hfull : 16 ≤ u.drain.length) : u.sweepLive w d p = u.lackItem w := by
  unfold State.sweepLive
  rw [if_neg (not_not.2 hrest), if_neg (Fin.val_ne_zero_iff.2 hcount), if_neg (Nat.not_lt.2 hfull)]

theorem lackItem_running (h : w.state = .running) : u.lackItem w = u.walkIn .waitingDrain w := by
  unfold State.lackItem
  rw [h]
  rfl

theorem lackItem_suspending (h : w.state = .suspending false) : u.lackItem w = u.walkIn .suspended w := by
  unfold State.lackItem
  rw [h]
  rfl

theorem lackItem_cancelling (h : w.state = .suspending true) : u.lackItem w = u.endWalk w .cancelled := by
  unfold State.lackItem
  rw [h]

end Live

/-- Settles O28, by the contents as read: POISONED, VACANT, of other domains alone, LIVE with domains, claims or drain items
left or not, and REVOKING. -/
theorem sweepTakesEntry : Obligations.SweepTakesEntry := by
  intro w d s i u e rest on counted
  have hlive {p : Placement} (h : e.contents = .live p) (hd : inSet d p.domains = true) :
      s.sweepTake w d = u.sweepLive w d p := (sweepTake_live rfl h).trans (if_pos hd)
  refine ⟨fun h => ?poisoned, fun h => ?vacant, fun p h hd => ?outside, fun p h hd hrest => ?narrowed,
    fun p h hd hrest hcount => ?vacated, fun p h hd hrest hcount hroom => ?drained,
    fun p h hd hrest hcount hfull => ?lacking, fun p h hd => ?revoking⟩
  case poisoned => exact sweepTake_poisoned rfl h
  case vacant => exact sweepTake_vacant rfl h
  case outside => exact sweepTake_outside rfl h hd
  case narrowed => exact (hlive h hd).trans (sweepLive_narrowed hrest)
  case vacated => exact (hlive h hd).trans (sweepLive_vacated hrest hcount)
  case drained => exact (hlive h hd).trans (sweepLive_drained hrest hcount hroom)
  case lacking =>
    have hlacks : s.sweepTake w d = u.lackItem w := (hlive h hd).trans (sweepLive_lacking hrest hcount hfull)
    exact ⟨fun hstate => hlacks.trans (lackItem_running hstate), fun hstate => hlacks.trans (lackItem_suspending hstate),
      fun hstate => hlacks.trans (lackItem_cancelling hstate)⟩
  case revoking => exact (sweepTake_revoking rfl h).trans (if_pos hd)

/-! ### The steps (09 R149, R152, R156) -/

theorem stepping_iff (w : Walk) : stepping w = true ↔ w.state = .running ∨ ∃ c, w.state = .suspending c := by
  unfold stepping
  cases w.state <;> simp

section Steps

variable {w : Walk} {s : State}

theorem sweepStepOf_skips (d : Domain)
    (h : positionOf w.cursor = 0 ∧ s.freeze.marks.getLsbD (groupOf w.cursor).val = true) :
    s.sweepStepOf w d = (s.updateReport (updateCounts (fun c => { c with skipped := c.skipped + 1 }))).advance w
      (w.cursor.val + 32) :=
  if_pos h

theorem sweepStepOf_takes (d : Domain)
    (h : ¬ (positionOf w.cursor = 0 ∧ s.freeze.marks.getLsbD (groupOf w.cursor).val = true)) :
    s.sweepStepOf w d = s.sweepTake w d :=
  if_neg h

theorem scrubStepOf_poisoned (h : ((s.readEntry .scrub w.cursor).entry w.cursor).contents = .poisoned) :
    s.scrubStepOf w = (s.readEntry .scrub w.cursor).countPoisoned.advance w (w.cursor.val + 1) :=
  congrArg (State.advance w (w.cursor.val + 1)) (if_pos h)

theorem scrubStepOf_sound (h : ((s.readEntry .scrub w.cursor).entry w.cursor).contents ≠ .poisoned) :
    s.scrubStepOf w = (s.readEntry .scrub w.cursor).advance w (w.cursor.val + 1) :=
  congrArg (State.advance w (w.cursor.val + 1)) (if_neg h)

variable (hw : Walking w s) (hsteps : stepping w = true)

include hw hsteps

theorem exec_sweepStep_of_stepping {d : Domain} (hkind : w.kind = .domainSweep d) :
    exec .sweepStep s = .next (s.sweepStepOf w d) := by
  have hrow : exec .sweepStep s = execSweepStep s := rfl
  rw [hrow]
  unfold execSweepStep
  simp only [hw, hkind, hsteps, if_true]

theorem exec_scrubStep_of_stepping (hkind : w.kind = .scrub) : exec .scrubStep s = .next (s.scrubStepOf w) := by
  have hrow : exec .scrubStep s = execScrubStep s := rfl
  rw [hrow]
  unfold execScrubStep
  simp only [hw, hkind, hsteps, if_true]

end Steps

/-- Settles O29: a sweep's step goes by position and freeze mark, a scrub's by the entry as read. -/
theorem walkSteps : Obligations.WalkSteps := by
  intro w s hw hstate i
  have hsteps : stepping w = true := (stepping_iff w).2 hstate
  refine ⟨fun d hkind => ?sweep, fun hkind => ?scrub⟩
  case sweep =>
    rw [exec_sweepStep_of_stepping hw hsteps hkind]
    exact ⟨fun h => congrArg _ (sweepStepOf_skips d h), fun h => congrArg _ (sweepStepOf_takes d h)⟩
  case scrub =>
    rw [exec_scrubStep_of_stepping hw hsteps hkind]
    exact ⟨fun h => congrArg _ (scrubStepOf_poisoned h), fun h => congrArg _ (scrubStepOf_sound h)⟩

end Sys2Proof.Machine
end

section
/-! SUPPORT. The Sweep Engine's commands: DOMAIN_SWEEP and SCRUB, SWEEP_SUSPEND, SWEEP_RESUME and SWEEP_CANCEL (09 R150, R157
to R160). -/

namespace Sys2Proof.Machine

/-! ### DOMAIN_SWEEP and SCRUB (09 R150) -/

section Start

variable {s : State}

/-- A walk in progress and a commit each keep a walk from starting. -/
theorem startWalk_busy (k : WalkKind) (h : s.sweep.walk ≠ none ∨ committing s.batch.staging = true) :
    s.startWalk k = (s, .refused .busy) :=
  if_pos (h.imp_left Option.isSome_iff_ne_none.2)

theorem domainSweepTests_badOperand (h : 7 < operandByte s 0) : s.domainSweepTests = (s, .refused .badOperand) := by
  unfold State.domainSweepTests
  rw [indexBelow_of_ge h]

theorem domainSweepTests_inRange {d : Domain} (hd : d.val = operandByte s 0) :
    s.domainSweepTests = s.startWalk (.domainSweep d) := by
  unfold State.domainSweepTests
  rw [indexBelow_of_eq d hd]

variable (h : ¬ (s.sweep.walk ≠ none ∨ committing s.batch.staging = true))

include h

/-- The walk begins at entry 0, its Sweep Result IN_PROGRESS with counts of 0, and the domain is CLOSING. -/
theorem startWalk_domainSweep (d : Domain) : s.startWalk (.domainSweep d) =
    (State.putDomain d { s.domainRecord d with closing := true }
      { s with sweep := ⟨some ⟨.running, .domainSweep d, 0⟩,
          some ⟨.inProgress, .domainSweep d ⟨0, 0, 0, 0⟩, 0, 0⟩⟩ }, .busyStarted) :=
  if_neg (mt (Or.imp_left Option.isSome_iff_ne_none.1) h)

theorem startWalk_scrub : s.startWalk .scrub =
    ({ s with sweep := ⟨some ⟨.running, .scrub, 0⟩, some ⟨.inProgress, .scrub, 0, 0⟩⟩ }, .busyStarted) :=
  if_neg (mt (Or.imp_left Option.isSome_iff_ne_none.1) h)

end Start

/-- Settles O41: past the gate DOMAIN_SWEEP tests its operand, and both commands whether the engine is free. -/
theorem walksStart : Obligations.WalksStart := by
  intro s hc hb busy started
  have hsweep : exec .domainSweep s = _ := atCommandRegister_interrupting hc hb State.domainSweepTests
  have hscrub : exec .scrub s = _ := atCommandRegister_interrupting hc hb (State.startWalk .scrub)
  rw [hsweep, hscrub]
  refine ⟨fun h => ?sweep_badOperand, fun h hbusy => ?sweep_busy, fun d hd hfree => ?sweep_starts,
    fun hbusy => ?scrub_busy, fun hfree => ?scrub_starts⟩
  case sweep_badOperand => rw [domainSweepTests_badOperand h]
  case sweep_busy =>
    have hd : operandByte s 0 < 8 := Nat.lt_succ_of_le h
    rw [domainSweepTests_inRange (d := ⟨_, hd⟩) rfl, startWalk_busy _ hbusy]
  case sweep_starts =>
    rw [domainSweepTests_inRange hd, startWalk_domainSweep hfree]
    rfl
  case scrub_busy => rw [startWalk_busy _ hbusy]
  case scrub_starts => rw [startWalk_scrub hfree]

/-! ### SWEEP_SUSPEND, SWEEP_RESUME, SWEEP_CANCEL (09 R157 to R160) -/

section Idle

variable {s : State} (h : s.sweep.walk = none)

include h

theorem suspendTests_idle : s.suspendTests = (s, .refused .notRunning) := by
  unfold State.suspendTests
  rw [h]

theorem resumeTests_idle : s.resumeTests = (s, .refused .notSuspended) := by
  unfold State.resumeTests
  rw [h]

theorem cancelTests_idle : s.cancelTests = (s, .refused .notRunning) := by
  unfold State.cancelTests
  rw [h]

end Idle

section Walking

variable {s : State} {w : Walk} (hw : Walking w s)

include hw

theorem suspendTests_running (h : w.state = .running) : s.suspendTests = (s.walkIn (.suspending false) w, .done) := by
  unfold State.suspendTests
  simp only [hw, h]

/-- A walk that waits for a drain item takes no step, so it is SUSPENDED at once. -/
theorem suspendTests_waiting (h : w.state = .waitingDrain) : s.suspendTests = (s.walkIn .suspended w, .done) := by
  unfold State.suspendTests
  simp only [hw, h]

theorem suspendTests_refused (h : w.state = .suspended ∨ ∃ c, w.state = .suspending c) :
    s.suspendTests = (s, .refused .notRunning) := by
  unfold State.suspendTests
  obtain h | ⟨c, h⟩ := h
  · simp only [hw, h]
  · simp only [hw, h]

theorem resumeTests_notSuspended (h : w.state ≠ .suspended) : s.resumeTests = (s, .refused .notSuspended) := by
  unfold State.resumeTests
  rw [hw]
  exact if_pos h

theorem resumeTests_busy (h : w.state = .suspended) (hcommit : committing s.batch.staging = true) :
    s.resumeTests = (s, .refused .busy) := by
  unfold State.resumeTests
  rw [hw]
  exact (if_neg (not_not.2 h)).trans (if_pos hcommit)

theorem resumeTests_done (h : w.state = .suspended) (hcommit : committing s.batch.staging = false) :
    s.resumeTests = (s.walkIn .running w, .done) := by
  unfold State.resumeTests
  rw [hw]
  exact (if_neg (not_not.2 h)).trans (if_neg (Bool.not_eq_true _ ▸ hcommit))

/-- A step in progress is finished first: the cancel is requested. -/
theorem cancelTests_suspending (h : ∃ c, w.state = .suspending c) :
    s.cancelTests = (s.walkIn (.suspending true) w, .done) := by
  obtain ⟨c, h⟩ := h
  unfold State.cancelTests
  simp only [hw, h]

theorem cancelTests_ends (h : ∀ c, w.state ≠ .suspending c) : s.cancelTests = (s.endWalk w .cancelled, .done) := by
  unfold State.cancelTests
  rw [hw]
  cases hstate : w.state with
  | running => simp only [hstate]
  | waitingDrain => simp only [hstate]
  | suspending c => exact absurd hstate (h c)
  | suspended => simp only [hstate]

end Walking

/-- Settles O42, command by command: each passes the gate, then the engine's state decides. -/
theorem walksAreSteered : Obligations.WalksAreSteered := by
  intro s hc hb engine
  have hsuspend : exec .sweepSuspend s = _ := atCommandRegister_interrupting hc hb State.suspendTests
  have hresume : exec .sweepResume s = _ := atCommandRegister_interrupting hc hb State.resumeTests
  have hcancel : exec .sweepCancel s = _ := atCommandRegister_interrupting hc hb State.cancelTests
  rw [hsuspend, hresume, hcancel]
  refine ⟨fun h => ⟨?idle_suspend, ?idle_resume, ?idle_cancel⟩, fun w hw => ⟨fun h => ?suspend_running,
    fun h => ?suspend_waiting, fun h => ?suspend_refused, fun h => ?resume_notSuspended, fun h hcommit => ?resume_busy,
    fun h hcommit => ?resume_done, fun h => ?cancel_requested, fun h => ?cancel_ends⟩⟩
  case idle_suspend => rw [suspendTests_idle h]
  case idle_resume => rw [resumeTests_idle h]
  case idle_cancel => rw [cancelTests_idle h]
  case suspend_running =>
    rw [suspendTests_running hw h]
    rfl
  case suspend_waiting =>
    rw [suspendTests_waiting hw h]
    rfl
  case suspend_refused => rw [suspendTests_refused hw h]
  case resume_notSuspended => rw [resumeTests_notSuspended hw h]
  case resume_busy => rw [resumeTests_busy hw h hcommit]
  case resume_done =>
    rw [resumeTests_done hw h hcommit]
    rfl
  case cancel_requested =>
    rw [cancelTests_suspending hw h]
    rfl
  case cancel_ends => rw [cancelTests_ends hw h]

end Sys2Proof.Machine
end

section
/-! SUPPORT. Recording an error, the levels of INT and ALERT, and a write of the ALERT control byte (10 R165 to R173). -/

namespace Sys2Proof.Machine

/-! ### Flags as bits (10 R168, R169) -/

/-- Two fields meet where some bit is set in both. -/
theorem and_ne_zero_iff_getLsbD {w : Nat} (a b : BitVec w) :
    a &&& b ≠ 0#w ↔ ∃ k : Fin w, a.getLsbD k.val = true ∧ b.getLsbD k.val = true := by
  have hzero : a &&& b = 0#w ↔ ∀ k : Fin w, (a &&& b).getLsbD k.val = false := by
    refine ⟨fun h k => by rw [h, BitVec.getLsbD_zero], fun h => BitVec.eq_of_getLsbD_eq fun k hk => ?_⟩
    rw [BitVec.getLsbD_zero]
    exact h ⟨k, hk⟩
  simp only [Ne, hzero, not_forall, BitVec.getLsbD_and, Bool.not_eq_false, Bool.and_eq_true]

/-- A field meets a single flag where its bit at the flag's place is set. -/
theorem and_flag_ne_zero_iff {w k : Nat} (hk : k < w) (m : BitVec w) : m &&& (1#w <<< k) ≠ 0#w ↔ m.getLsbD k = true := by
  simp only [and_ne_zero_iff_getLsbD, ← BitVec.twoPow_eq, BitVec.getLsbD_twoPow, Bool.and_eq_true, decide_eq_true_eq]
  exact ⟨fun ⟨_, hm, _, hj⟩ => hj ▸ hm, fun hm => ⟨⟨k, hk⟩, hm, hk, rfl⟩⟩

theorem errorCode_bounds (e : ErrorRecord) : 1 ≤ errorCode e ∧ errorCode e ≤ 9 := by
  cases e <;> simp [errorCode]

/-- A routing field routes an error when it has the bit of the error's kind (10 R168). -/
theorem and_errorBit_ne_zero_iff (m : BitVec 9) (e : ErrorRecord) :
    m &&& errorBit e ≠ 0#9 ↔ m.getLsbD (errorCode e - 1) = true := by
  obtain ⟨hpos, hle⟩ := errorCode_bounds e
  exact and_flag_ne_zero_iff (by omega) m

theorem routedToAlert_eq (st : Settings) (e : ErrorRecord) :
    routedToAlert st e = st.routeAlert.getLsbD (errorCode e - 1) := by
  rw [Bool.eq_iff_iff, ← and_errorBit_ne_zero_iff, routedToAlert, bne_iff_ne]

/-! ### An error reaches ALERT (10 R172) -/

section Alert

variable {st : Settings} {e : ErrorRecord} {u : ErrorUnit}

theorem recordError_asserts (hrouted : routedToAlert st e = true) (hclear : u.override = false) :
    (recordError st e u).alertAsserted = true ∧ (recordError st e u).override = true := by
  simp [recordError, hrouted, hclear]

theorem recordError_of_not_routed (h : routedToAlert st e = false) :
    (recordError st e u).alertAsserted = u.alertAsserted ∧ (recordError st e u).override = u.override := by
  simp [recordError, h]

theorem recordError_of_override (h : u.override = true) :
    (recordError st e u).alertAsserted = u.alertAsserted ∧ (recordError st e u).override = u.override := by
  simp [recordError, h]

end Alert

/-! ### INT (10 R169) -/

theorem intDriven_iff (st : Settings) (u : ErrorUnit) : intDriven st u = true ↔
    (∃ e, u.first = some e ∧ st.routeInt.getLsbD (errorCode e - 1) = true)
    ∨ (∃ k : Fin 9, u.next.getLsbD k.val = true ∧ st.routeInt.getLsbD k.val = true)
    ∨ (∃ k : Fin 5, u.events.getLsbD k.val = true ∧ st.enables.getLsbD k.val = true) := by
  unfold intDriven
  rw [Bool.or_eq_true, Bool.or_eq_true, bne_iff_ne, bne_iff_ne, and_ne_zero_iff_getLsbD, and_ne_zero_iff_getLsbD, or_assoc]
  refine or_congr ?_ Iff.rfl
  cases u.first with
  | none => simp
  | some e => simp only [bne_iff_ne, and_errorBit_ne_zero_iff, Option.some.injEq, exists_eq_left']

/-- Settles O22: the First Error record decides where an error goes, the override whether it reaches ALERT. -/
theorem errorsAndLines : Obligations.ErrorsAndLines := by
  refine ⟨fun st e u => ?recorded, fun s => ⟨intDriven_iff s.settings s.errors, Iff.rfl⟩⟩
  case recorded =>
    intro v routed
    have hrouted : routed ↔ routedToAlert st e = true := by rw [routedToAlert_eq]
    refine ⟨recordError_of_empty st e, fun h => ?held, fun hr ho => recordError_asserts (hrouted.1 hr) ho,
      fun h => ?kept, recordError_events st e u⟩
    case held =>
      obtain ⟨x, hx⟩ := Option.ne_none_iff_exists'.1 h
      rw [hx]
      exact recordError_of_held st e hx
    case kept =>
      rcases h with h | h
      · exact recordError_of_not_routed (Bool.not_eq_true _ ▸ mt hrouted.2 h)
      · exact recordError_of_override h

/-! ### The ALERT control byte is written (10 R173) -/

/-- Bit 1 clears the override and bit 2 sets it; a byte with both, or with neither, leaves it. -/
theorem writeAlertControl_eq (v : Byte) (u : ErrorUnit) : writeAlertControl v u = { u with
    alertAsserted := if v.getLsbD 0 then false else u.alertAsserted
    override :=
      if v.getLsbD 1 && v.getLsbD 2 then u.override
      else if v.getLsbD 1 then false
      else if v.getLsbD 2 then true
      else u.override } := by
  unfold writeAlertControl
  congr 1
  · cases v.getLsbD 1 with
    | false => cases v.getLsbD 2 <;> rfl
    | true => cases v.getLsbD 2 <;> rfl
  · cases v.getLsbD 0 with
    | false => exact Bool.and_true _
    | true => exact Bool.and_false _

theorem writesAt_iff (a : BitVec 7) (s : State) :
    s.writesAt a = true ↔ s.mgmt.transaction = .writing ∧ s.mgmt.pointer = a := by
  simp [State.writesAt]

/-- A byte written at the ALERT control byte's address does what the rows of that byte do. -/
theorem writeNext_alert {s : State} (h : s.mgmt.pointer = 0x38#7) (v : Byte) : s.writeNext v = (s.writeAlert v).byteTaken := by
  unfold State.writeNext
  rw [h]
  rfl

/-- Settles O47: each row that carries the byte, and REGISTER_WRITE at its address, writes the whole of it. -/
theorem alertControlWritten : Obligations.AlertControlWritten := by
  intro v s hwrites u
  obtain ⟨hwriting, hpointer⟩ := (writesAt_iff _ s).1 hwrites
  have hu : (s.writeAlert v).byteTaken = u := by
    simp only [State.byteTaken, State.writeAlert, writeAlertControl_eq, hpointer]
    rfl
  rw [← hu]
  refine ⟨fun h => if_pos ⟨hwrites, h⟩, fun h => if_pos ⟨hwrites, h⟩, fun h => if_pos ⟨hwrites, h⟩, fun b hb => ?_⟩
  have hregister : exec (.registerWrite b v) s = .next (s.writeNext v) := if_pos ⟨hb, hwriting⟩
  rw [hregister, writeNext_alert hpointer]

end Sys2Proof.Machine
end

section
/-! SUPPORT. What each address of the register window shows (11 R178, R179). -/

namespace Sys2Proof.Machine

/-! ### Bits of a byte -/

theorem bitAt_getLsbD (j k : Fin 8) (b : Bool) : (bitAt j.val b).getLsbD k.val = (decide (k = j) && b) := by
  revert j k b
  decide

theorem passSet_getLsbD (s : State) (d : Domain) : s.passSet.getLsbD d.val = (s.domainRecord d).pass := by
  unfold State.passSet
  rw [foldl_bits_getLsbD]
  simp

/-- The two bytes of a nine-bit setting make the setting. -/
theorem byteOf_append (x : BitVec 9) : byteOf 1 x.toNat ++ byteOf 0 x.toNat = x.setWidth 16 := by
  have hx := x.isLt
  refine BitVec.eq_of_toNat_eq ?_
  rw [BitVec.toNat_append, ← Nat.shiftLeft_add_eq_or_of_lt (byteOf 0 x.toNat).isLt]
  simp only [byteOf, BitVec.toNat_ofNat, BitVec.toNat_setWidth, Nat.shiftLeft_eq]
  omega

/-! ### The regions of the window (11 R178) -/

section Regions

variable {s : State} {a : Nat}

theorem plainByte_status (h : a < 0x15) : s.plainByte a = s.statusByte a := if_pos h

theorem plainByte_setting (hlow : 0x15 ≤ a) (hhigh : a < 0x50) (halert : a ≠ 0x38) (hevents : a ≠ 0x39) (hpage : a ≠ 0x40) :
    s.plainByte a = settingByte s.settings a := by
  rw [State.plainByte, if_neg (Nat.not_lt.2 hlow), if_neg halert, if_neg hevents, if_neg hpage, if_pos hhigh]

theorem plainByte_port (h : 0x50 ≤ a) : s.plainByte a = portByte s.mgmt a := by
  rw [State.plainByte, if_neg (by omega), if_neg (by omega), if_neg (by omega), if_neg (by omega), if_neg (by omega)]

theorem plainByte_operand (k : Fin 12) : s.plainByte (0x50 + k.val) = s.mgmt.operands[k] := by
  have hk := k.isLt
  have hindex : Fin.ofNat 12 (0x50 + k.val - 0x50) = k := by
    rw [Nat.add_sub_cancel_left]
    exact Fin.ofNat_val_eq_self k
  rw [plainByte_port (Nat.le_add_right _ _), portByte, if_pos (by omega)]
  simp only [hindex]

theorem plainByte_result (k : Fin 32) : s.plainByte (0x60 + k.val) = s.mgmt.results[k] := by
  have hk := k.isLt
  have hindex : Fin.ofNat 32 (0x60 + k.val - 0x60) = k := by
    rw [Nat.add_sub_cancel_left]
    exact Fin.ofNat_val_eq_self k
  rw [plainByte_port (by omega), portByte, if_neg (by omega), if_neg (by omega), if_neg (by omega), if_pos (by omega)]
  simp only [hindex]

/-- The gaps among the settings read 0. -/
theorem settingByte_unlisted (st : Settings) (h : a < 0x46) (henables : a ≠ 0x3A) : settingByte st a = 0#8 := by
  simp (disch := omega) only [settingByte, if_neg]

theorem plainByte_unlisted (h : (0x25 ≤ a ∧ a < 0x30) ∨ (0x3B ≤ a ∧ a < 0x40) ∨ a = 0x5F) : s.plainByte a = 0#8 := by
  rcases h with h | h | rfl
  · rw [plainByte_setting (by omega) (by omega) (by omega) (by omega) (by omega), settingByte_unlisted _ (by omega) (by omega)]
  · rw [plainByte_setting (by omega) (by omega) (by omega) (by omega) (by omega), settingByte_unlisted _ (by omega) (by omega)]
  · rfl

end Regions

/-! ### Flags beside a code -/

/-- A flag put where the code has no bit adds its weight. -/
theorem ofNat_or_bitAt {n k : Nat} (hk : k < 8) (hn : n.testBit k = false) (b : Bool) :
    BitVec.ofNat 8 n ||| bitAt k b = BitVec.ofNat 8 (n + if b then 2 ^ k else 0) := by
  cases b with
  | false => exact BitVec.or_zero
  | true =>
    have hclear : (BitVec.ofNat 8 n).getLsbD k = false := by rw [BitVec.getLsbD_ofNat, hn, Bool.and_false]
    have hapart : BitVec.ofNat 8 n &&& (1#8 <<< k) = 0#8 := by
      by_contra h
      exact Bool.false_ne_true (hclear.symm.trans ((and_flag_ne_zero_iff hk _).1 h))
    have hbit : 1#8 <<< k = BitVec.ofNat 8 (2 ^ k) := BitVec.eq_of_toNat_eq (by simp [Nat.shiftLeft_eq])
    calc BitVec.ofNat 8 n ||| bitAt k true = BitVec.ofNat 8 n + 1#8 <<< k := (BitVec.add_eq_or_of_and_eq_zero _ _ hapart).symm
      _ = BitVec.ofNat 8 (n + 2 ^ k) := by rw [hbit, BitVec.ofNat_add]

theorem bitAt_or_bitAt_eq (a b : Bool) :
    bitAt 0 a ||| bitAt 1 b = BitVec.ofNat 8 ((if a then 1 else 0) + if b then 2 else 0) := by
  revert a b
  decide

/-- A mark shown for a value that is held. -/
theorem ite_isSome_eq {α : Type} (o : Option α) [Decidable (o = none)] (n : Nat) :
    (if o.isSome then n else 0) = if o = none then 0 else n := by
  cases o with
  | none => simp
  | some x => simp

theorem phaseCode_le (p : Phase) : phaseCode p ≤ 3 := by
  cases p <;> decide

theorem plainByte_phase (s : State) :
    s.plainByte 0x03 = BitVec.ofNat 8 (phaseCode s.loader.phase + if s.errors.first = none then 0 else 128) := by
  have hcode := phaseCode_le s.loader.phase
  have hclear : (phaseCode s.loader.phase).testBit 7 = false := Nat.testBit_lt_two_pow (by omega)
  exact (ofNat_or_bitAt (by decide) hclear s.errors.first.isSome).trans (by rw [ite_isSome_eq]; rfl)

theorem plainByte_imageFlags (s : State) (k : Fin 8) : (s.plainByte 0x04).getLsbD k.val =
    [s.loader.flags.headerFail, s.loader.flags.controlFallback, s.loader.flags.controlSkipped,
      s.loader.flags.requesterSkipped, s.loader.flags.preloadSkipped, s.loader.flags.freezeSkipped].getD k.val false := by
  have hbits : (imageFlagsByte s.loader.flags).getLsbD k.val =
      (decide (k = 0) && s.loader.flags.headerFail || decide (k = 1) && s.loader.flags.controlFallback
        || decide (k = 2) && s.loader.flags.controlSkipped || decide (k = 3) && s.loader.flags.requesterSkipped
        || decide (k = 4) && s.loader.flags.preloadSkipped || decide (k = 5) && s.loader.flags.freezeSkipped) := by
    simp only [imageFlagsByte, BitVec.getLsbD_or, ← bitAt_getLsbD]
    rfl
  refine Eq.trans hbits ?_
  fin_cases k <;> simp

/-- The part of 0x05 that stands for STAGE_ABORT and its reason. -/
def abortField : Option AbortReason → Nat
  | none => 0
  | some x => 4 + 8 * abortCode x

theorem stagingCode_le (x : Staging) : stagingCode x ≤ 3 := by
  cases x <;> simp [stagingCode]

/-- STAGE_ABORT's bit stands between the buffer's state and the abort reason. -/
theorem plainByte_batch (s : State) :
    s.plainByte 0x05 = BitVec.ofNat 8 (stagingCode s.batch.staging + abortField s.batch.abort) := by
  have hcode := stagingCode_le s.batch.staging
  have hclear : (stagingCode s.batch.staging + 8 * ((s.batch.abort.map abortCode).getD 0)).testBit 2 = false := by
    rw [Nat.testBit_eq_decide_div_mod_eq, decide_eq_false_iff_not]
    omega
  refine (ofNat_or_bitAt (by decide) hclear s.batch.abort.isSome).trans (congrArg _ ?_)
  cases s.batch.abort with
  | none => rfl
  | some x => exact (Nat.add_assoc _ _ _).trans (congrArg _ (Nat.add_comm _ _))

/-- The parts of 0x0E: the engine's state with the mark of a requested cancel, and the kind of the walk. -/
def walkStateField (x : WalkState) : Nat := walkStateCode x + if x = .suspending true then 128 else 0

def walkKindField : WalkKind → Nat
  | .domainSweep d => 16 * d.val
  | .scrub => 8

theorem walkStateCode_le (x : WalkState) : walkStateCode x ≤ 4 := by
  cases x <;> simp [walkStateCode]

theorem walkKindField_le (x : WalkKind) : walkKindField x ≤ 112 := by
  cases x with
  | domainSweep d => exact Nat.mul_le_mul_left 16 (Nat.le_of_lt_succ d.isLt)
  | scrub => decide

theorem plainByte_walk {s : State} {w : Walk} (h : s.sweep.walk = some w) :
    s.plainByte 0x0E = BitVec.ofNat 8 (walkStateField w.state + walkKindField w.kind) := by
  have hstate := walkStateCode_le w.state
  have hkind := walkKindField_le w.kind
  have hclear : (walkStateCode w.state + walkKindField w.kind).testBit 7 = false := Nat.testBit_lt_two_pow (by omega)
  have hbyte : s.plainByte 0x0E = sweepByte (some w) := congrArg sweepByte h
  refine hbyte.trans ((ofNat_or_bitAt (by decide) hclear (w.state == .suspending true)).trans (congrArg _ ?_))
  simp only [walkStateField, beq_iff_eq, Nat.reducePow]
  omega

theorem plainByte_noWalk {s : State} (h : s.sweep.walk = none) : s.plainByte 0x0E = 0#8 := congrArg sweepByte h

theorem plainByte_freeze (s : State) : s.plainByte 0x12 =
    BitVec.ofNat 8 ((if s.freeze.range = none then 0 else 1) + if s.freeze.rangeUsed then 2 else 0) :=
  (bitAt_or_bitAt_eq s.freeze.range.isSome s.freeze.rangeUsed).trans (by rw [ite_isSome_eq])

theorem plainByte_alertControl (s : State) : s.plainByte 0x38 =
    BitVec.ofNat 8 ((if s.errors.alertAsserted then 1 else 0) + if s.errors.override then 2 else 0) :=
  bitAt_or_bitAt_eq s.errors.alertAsserted s.errors.override

theorem plainByte_noRange {s : State} (h : s.freeze.range = none) : s.plainByte 0x13 = 0#8 ∧ s.plainByte 0x14 = 0#8 := by
  have hlower : s.plainByte 0x13 = BitVec.ofNat 8 ((s.freeze.range.map (·.lower.val)).getD 0) := rfl
  have hupper : s.plainByte 0x14 = BitVec.ofNat 8 ((s.freeze.range.map (·.upper.val)).getD 0) := rfl
  rw [hlower, hupper, h]
  exact ⟨rfl, rfl⟩

theorem plainByte_range {s : State} {x : FreezeRange} (h : s.freeze.range = some x) :
    s.plainByte 0x13 = BitVec.ofNat 8 x.lower.val ∧ s.plainByte 0x14 = BitVec.ofNat 8 x.upper.val := by
  have hlower : s.plainByte 0x13 = BitVec.ofNat 8 ((s.freeze.range.map (·.lower.val)).getD 0) := rfl
  have hupper : s.plainByte 0x14 = BitVec.ofNat 8 ((s.freeze.range.map (·.upper.val)).getD 0) := rfl
  rw [hlower, hupper, h]
  exact ⟨rfl, rfl⟩

/-! ### Settings as latched (11 R180) -/

theorem plainByte_pageSize (s : State) : s.plainByte 0x40 = if s.store.pageSize = .k64 then 1#8 else 0#8 := by
  unfold State.plainByte
  cases s.store.pageSize <;> rfl

theorem snoopByte_eq (x : Snoop) : BitVec.ofNat 8 (snoopCode x) = if x = .direct then 1#8 else 0#8 := by
  cases x <;> rfl

theorem discardTimeOfCode_shown (x : DiscardTime) : discardTimeOfCode (BitVec.ofNat 8 (discardTimeCode x)).toNat = some x := by
  cases x <;> rfl

theorem drainTimeOfCode_shown (x : DrainTime) : drainTimeOfCode (BitVec.ofNat 8 (drainTimeCode x)).toNat = some x := by
  cases x <;> rfl

theorem quarantineTimeOfCode_shown (x : QuarantineTime) :
    quarantineTimeOfCode (BitVec.ofNat 8 (quarantineTimeCode x)).toNat = some x := by
  cases x <;> rfl

end Sys2Proof.Machine
end

section
/-! SUPPORT. The multi-byte values of the register window, their capture, and a byte read at the pointer (10 R167, R171, 11
R176 to R179). -/

namespace Sys2Proof.Machine

/-! ### Which addresses show a captured value (11 R177, R178) -/

section Addresses

variable {a k : Nat}

theorem capturedAt_cursor (h : k < 2) : capturedAt (0x0F + k) = some (.cursor, k) := by
  rw [capturedAt, if_pos (by omega), Nat.add_sub_cancel_left]

theorem capturedAt_freezeMarks (h : k < 16) : capturedAt (0x15 + k) = some (.freezeMarks, k) := by
  rw [capturedAt, if_neg (by omega), if_pos (by omega), Nat.add_sub_cancel_left]

theorem capturedAt_firstError (h : k < 6) : capturedAt (0x30 + k) = some (.firstError, k) := by
  rw [capturedAt, if_neg (by omega), if_neg (by omega), if_pos (by omega), Nat.add_sub_cancel_left]

theorem capturedAt_nextErrors (h : k < 2) : capturedAt (0x36 + k) = some (.nextErrors, k) := by
  rw [capturedAt, if_neg (by omega), if_neg (by omega), if_neg (by omega), if_pos (by omega), Nat.add_sub_cancel_left]

theorem capturedAt_base (h : k < 5) : capturedAt (0x41 + k) = some (.base, k) := by
  rw [capturedAt, if_neg (by omega), if_neg (by omega), if_neg (by omega), if_neg (by omega), if_pos (by omega),
    Nat.add_sub_cancel_left]

theorem capturedAt_none
    (h : a < 0x0F ∨ (0x11 ≤ a ∧ a < 0x15) ∨ (0x25 ≤ a ∧ a < 0x30) ∨ (0x38 ≤ a ∧ a < 0x41) ∨ 0x46 ≤ a) :
    capturedAt a = none := by
  rw [capturedAt, if_neg (by omega), if_neg (by omega), if_neg (by omega), if_neg (by omega), if_neg (by omega)]

end Addresses

/-! ### The values as they stand (10 R165, 11 R179) -/

theorem standing_cursor_idle {s : State} (h : s.sweep.walk = none) : s.standing .cursor = 0 := by
  simp [State.standing, State.cursorValue, h]

theorem standing_cursor_walk {s : State} {w : Walk} (h : s.sweep.walk = some w) : s.standing .cursor = w.cursor.val := by
  have hcursor := w.cursor.isLt
  have hvalue : s.standing .cursor = w.cursor.val % 2 ^ 16 := by
    simp [State.standing, State.cursorValue, h]
  rw [hvalue, Nat.mod_eq_of_lt (by omega)]

theorem standing_firstError_empty {s : State} (h : s.errors.first = none) : s.standing .firstError = 0 := by
  simp [State.standing, firstErrorValue, h]

theorem finderCode_le (f : Finder) : finderCode f ≤ 5 := by
  cases f <;> decide

theorem faultCode_le (k : FaultKind) : faultCode k ≤ 7 := by
  cases k <;> decide

theorem imageItemCode_le (x : ImageItem) : imageItemCode x ≤ 5 := by
  cases x <;> decide

theorem abortCode_le (x : AbortReason) : abortCode x ≤ 6 := by
  cases x <;> decide

theorem rejectCode_le (x : RejectReason) : rejectCode x ≤ 8 := by
  cases x <;> decide

/-- A held error whose fields fit their bytes is shown byte beside byte: its kind, two one-byte fields, the entry index and
the presence bits. -/
theorem standing_firstError_held {s : State} {e : ErrorRecord} {first second entry present : Nat}
    (h : s.errors.first = some e) (hdetail : errorDetail e = detailNat first second entry present)
    (hfirst : first < 256 := by omega) (hsecond : second < 256 := by omega) (hentry : entry < 65536 := by omega)
    (hpresent : present < 256 := by omega) :
    s.standing .firstError = errorCode e + 2 ^ 8 * first + 2 ^ 16 * second + 2 ^ 24 * entry + 2 ^ 40 * present := by
  have hcode := errorCode_bounds e
  have hvalue : s.standing .firstError = (errorCode e + 256 * detailNat first second entry present) % 2 ^ 48 := by
    simp only [State.standing, h, firstErrorValue, hdetail, BitVec.toNat_ofNat]
  rw [hvalue, detailNat]
  omega

/-! ### Captures (11 R177) -/

theorem capturedIn_none (v : CapturedValue) : capturedIn Captures.none v = none := by
  cases v <;> rfl

/-- A capture holds the value whole: each value fits the width it is captured in. -/
theorem capturedIn_captureIn (c : Captures) (v : CapturedValue) (s : State) :
    capturedIn (captureIn c v (s.standing v)) v = some (s.standing v) := by
  have hfits {n w : Nat} (h : n < 2 ^ w) : some (BitVec.ofNat w n).toNat = some n := by
    rw [BitVec.toNat_ofNat, Nat.mod_eq_of_lt h]
  cases v with
  | cursor => exact hfits s.cursorValue.isLt
  | freezeMarks => exact hfits s.freeze.marks.isLt
  | firstError => exact hfits (firstErrorValue s.errors.first).isLt
  | nextErrors => exact hfits (lt_trans s.errors.next.isLt (by decide))
  | base => exact hfits s.store.base.isLt

/-- A capture of one value leaves those of the others. -/
theorem capturedIn_captureIn_ne (c : Captures) {v w : CapturedValue} (n : Nat) (h : w ≠ v) :
    capturedIn (captureIn c v n) w = capturedIn c w := by
  cases v with
  | cursor =>
    cases w with
    | cursor => exact absurd rfl h
    | _ => rfl
  | freezeMarks =>
    cases w with
    | freezeMarks => exact absurd rfl h
    | _ => rfl
  | firstError =>
    cases w with
    | firstError => exact absurd rfl h
    | _ => rfl
  | nextErrors =>
    cases w with
    | nextErrors => exact absurd rfl h
    | _ => rfl
  | base =>
    cases w with
    | base => exact absurd rfl h
    | _ => rfl

/-! ### The byte an address gives (11 R177) -/

section ByteRead

variable {s : State} {a k n : Nat} {v : CapturedValue}

theorem byteRead_lowest (h : capturedAt a = some (v, 0)) : s.byteRead a =
    (BitVec.ofNat 8 (s.standing v), captureIn s.mgmt.captures v (s.standing v)) := by
  simp [State.byteRead, h, capturedIn_captureIn, byteOf]

theorem byteRead_captured (h : capturedAt a = some (v, k + 1)) (hn : capturedIn s.mgmt.captures v = some n) :
    s.byteRead a = (BitVec.ofNat 8 (n / 256 ^ (k + 1)), s.mgmt.captures) := by
  simp [State.byteRead, h, hn, byteOf]

theorem byteRead_standing (h : capturedAt a = some (v, k + 1)) (hn : capturedIn s.mgmt.captures v = none) :
    s.byteRead a = (BitVec.ofNat 8 (s.standing v / 256 ^ (k + 1)), s.mgmt.captures) := by
  simp [State.byteRead, h, hn, byteOf]

theorem byteRead_plain (h : capturedAt a = none) : s.byteRead a = (s.plainByte a, s.mgmt.captures) := by
  simp [State.byteRead, h]

end ByteRead

/-! ### A byte is read at the pointer (10 R171, 11 R176) -/

/-- The state after a byte has been sent. -/
def State.afterByte (b : ReadBus) (x : Byte) (c : Captures) (events : BitVec 5) (s : State) : State :=
  { s with
    mgmt := { s.mgmt with transaction := readAfter b, captures := c, sent := some x, pointer := s.mgmt.pointer + 1#7 }
    errors := { s.errors with events := events } }

section Read

variable {b : ReadBus} {s : State}

theorem exec_multiByteCaptureRead (h : s.readable (busOf b) = true) :
    exec (.multiByteCaptureRead b) s = .next (s.readNext b) := if_pos h

theorem exec_eventRegisterRead (h : s.readable (busOf b) = true) (hpointer : s.mgmt.pointer = 0x39#7) :
    exec (.eventRegisterRead b) s = .next (s.readNext b) := if_pos ⟨h, hpointer⟩

/-- Away from the event register a read leaves the event flags. -/
theorem readNext_elsewhere {x : Byte} {c : Captures} (hpointer : s.mgmt.pointer ≠ 0x39#7)
    (hbyte : s.byteRead s.mgmt.pointer.toNat = (x, c)) : s.readNext b = s.afterByte b x c s.errors.events := by
  simp only [State.readNext, State.afterByte, hbyte, if_neg hpointer]

/-- A read of the event register gives the flags and clears them. -/
theorem readNext_events (hpointer : s.mgmt.pointer = 0x39#7) :
    s.readNext b = s.afterByte b (s.errors.events.setWidth 8) s.mgmt.captures 0#5 := by
  simp only [State.readNext, State.afterByte, if_pos hpointer]
  rw [hpointer]
  rfl

/-- The event register is no byte of a captured value. -/
theorem pointer_ne_of_captured {p : BitVec 7} {v : CapturedValue} {k : Nat} (h : capturedAt p.toNat = some (v, k)) :
    p ≠ 0x39#7 := by
  rintro rfl
  exact Option.some_ne_none _ (h.symm.trans (capturedAt_none (by decide)))

end Read

/-- Settles O46: what the window shows, address by address and error kind by error kind, and each way a byte is read. -/
theorem bytesAreRead : Obligations.BytesAreRead := by
  refine ⟨fun s => ?window, ⟨fun k hk => ⟨capturedAt_cursor hk, capturedAt_nextErrors hk⟩,
      fun _ => capturedAt_freezeMarks, fun _ => capturedAt_firstError, fun _ => capturedAt_base, fun _ => capturedAt_none⟩,
    fun c v s => ⟨capturedIn_none v, capturedIn_captureIn c v s, fun _ => capturedIn_captureIn_ne c _⟩,
    fun s => ?values, fun b s hreadable => ?read⟩
  case window =>
    intro at' byte stage abort engine
    have hstage : stage = (stagingCode s.batch.staging, ((stagingFields s.batch.staging).map (·.1.val)).getD 0,
        ((stagingFields s.batch.staging).map (·.2.1)).getD 0, ((stagingFields s.batch.staging).map (·.2.2)).getD 0) := by
      dsimp only [stage]
      cases s.batch.staging <;> rfl
    have habort : abort = abortField s.batch.abort := by
      dsimp only [abort]
      cases s.batch.abort with
      | none => rfl
      | some x => cases x <;> rfl
    have hengine : at' 0x0E = byte engine := by
      dsimp only [engine]
      cases hwalk : s.sweep.walk with
      | none => exact plainByte_noWalk hwalk
      | some w =>
        refine (plainByte_walk hwalk).trans (congrArg byte (congrArg₂ _ ?_ ?_))
        · cases w.state with
          | suspending c => cases c <;> rfl
          | _ => rfl
        · cases w.kind <;> rfl
    rw [hstage, habort]
    refine ⟨rfl, rfl, rfl, ?phase, plainByte_imageFlags s, plainByte_batch s, rfl, rfl, rfl, rfl, rfl, rfl,
      fun d => ⟨closingSet_getLsbD s d, passSet_getLsbD s d⟩, hengine, rfl, plainByte_freeze s, plainByte_noRange,
      fun x => plainByte_range, plainByte_alertControl s, rfl, rfl, plainByte_pageSize s, snoopByte_eq s.settings.snoop,
      discardTimeOfCode_shown s.settings.discardTime, drainTimeOfCode_shown s.settings.drainTime,
      quarantineTimeOfCode_shown s.settings.quarantineTime, rfl, rfl, byteOf_append s.settings.routeInt,
      byteOf_append s.settings.routeAlert, plainByte_operand, rfl, ?status, ?reason, plainByte_result,
      fun a => plainByte_unlisted⟩
    case phase => exact plainByte_phase s
    case status =>
      have hbyte : at' 0x5D = byte (statusCode s.mgmt.status) := rfl
      rw [hbyte]
      cases s.mgmt.status <;> rfl
    case reason =>
      have hbyte : at' 0x5E = byte ((s.mgmt.reason.map refusalCode).getD 0) := rfl
      rw [hbyte]
      cases s.mgmt.reason with
      | none => rfl
      | some x => cases x <;> rfl
  case values =>
    intro finder part fault abort reject shows
    have hfinder : finder = finderCode := funext fun f => by cases f <;> rfl
    have hpart : part = imageItemCode := funext fun x => by cases x <;> rfl
    have hfault : fault = faultCode := funext fun k => by cases k <;> rfl
    have habort : abort = abortCode := funext fun x => by cases x <;> rfl
    have hreject : reject = rejectCode := funext fun x => by cases x <;> rfl
    rw [hfinder, hpart, hfault, habort, hreject]
    refine ⟨?cursor, rfl, rfl, rfl, standing_firstError_empty, fun i f h => ?parity, fun r k h => ?discarded,
      fun i n hn h => ?drainExpired, fun x h => ?batchAbort, fun x i h => ?rejected, fun x h => ?protectedCommit,
      fun r k h => ?requesterFault, fun r h => ?quarantine, fun k h => ?portProtocol, fun x n hn h => ?imageSection,
      fun x h => ?imageHeader⟩
    case cursor =>
      cases hwalk : s.sweep.walk with
      | none => exact standing_cursor_idle hwalk
      | some w => exact standing_cursor_walk hwalk
    case parity =>
      have hf := finderCode_le f
      exact standing_firstError_held h rfl
    case batchAbort =>
      have hx := abortCode_le x
      exact standing_firstError_held h rfl
    case rejected =>
      have hx := rejectCode_le x
      exact standing_firstError_held h rfl
    case protectedCommit =>
      have hx := rejectCode_le x
      exact standing_firstError_held h rfl
    case requesterFault =>
      have hk := faultCode_le k
      exact standing_firstError_held h rfl
    case imageSection =>
      have hx := imageItemCode_le x
      exact standing_firstError_held h rfl
    case imageHeader =>
      have hx := imageItemCode_le x
      exact standing_firstError_held h rfl
    case discarded | drainExpired | quarantine | portProtocol => exact standing_firstError_held h rfl
  case read =>
    intro p on sent
    have hon : readAfter b = on := by
      rcases b with ⟨_, _ | _⟩ | _ <;> rfl
    have hsent (x : Byte) (c : Captures) (events : BitVec 5) : s.afterByte b x c events = sent x c events := by
      rw [State.afterByte, hon]
    simp only [exec_multiByteCaptureRead hreadable, ← hsent]
    refine ⟨fun hp => ⟨?event, (exec_eventRegisterRead hreadable hp).symm⟩, fun v hv => ?lowest, fun v k n hv hn => ?captured,
      fun v k hv hn => ?standing, fun hp hv => ?plain⟩
    case event => rw [exec_eventRegisterRead hreadable hp, readNext_events hp]
    case lowest => rw [readNext_elsewhere (pointer_ne_of_captured hv) (byteRead_lowest hv)]
    case captured => rw [readNext_elsewhere (pointer_ne_of_captured hv) (byteRead_captured hv hn)]
    case standing => rw [readNext_elsewhere (pointer_ne_of_captured hv) (byteRead_standing hv hn)]
    case plain => rw [readNext_elsewhere hp (byteRead_plain hv)]

end Sys2Proof.Machine
end

section
/-! SUPPORT. The dispatch of a command at the command register (11 R181). -/

namespace Sys2Proof.Machine

/-! ### A byte is written at the pointer (11 R178) -/

section Write

variable {b : Bus} {s : State}

theorem exec_registerWrite (hselected : s.selects b = true) (hwriting : s.mgmt.transaction = .writing) (v : Byte) :
    exec (.registerWrite b v) s = .next (s.writeNext v) := if_pos ⟨hselected, hwriting⟩

theorem writeNext_command (h : s.mgmt.pointer = 0x5C#7) (v : Byte) : s.writeNext v = s.dispatch v := if_pos h

theorem writeNext_elsewhere (h : s.mgmt.pointer ≠ 0x5C#7) (v : Byte) :
    s.writeNext v = (s.storeByte s.mgmt.pointer.toNat v).byteTaken := if_neg h

/-- At the command register the byte is the code of a command. -/
theorem exec_registerWrite_command (hselected : s.selects b = true) (hwrites : s.writesAt 0x5C#7 = true) (code : Byte) :
    exec (.registerWrite b code) s = .next (s.dispatch code) := by
  obtain ⟨hwriting, hpointer⟩ := (writesAt_iff _ s).1 hwrites
  rw [exec_registerWrite hselected hwriting, writeNext_command hpointer]

end Write

/-! ### The command table (11 R181) -/

/-- A command's row is the dispatch of its code, and no event without a write at the command register. -/
theorem exec_commandTable : ∀ x ∈ commandTable, ∀ s,
    exec x.2 s = if s.writesAt 0x5C#7 then .next (s.dispatch x.1) else .next s := by
  intro x hx s
  fin_cases hx <;> rfl

/-- A code in no row of the table has no command's effect. -/
theorem dispatch_undefined {code : Byte} (h : commandCodes.contains code = false) (s : State) :
    s.dispatch code = s.ended (.refused .badOperand) := by
  simp only [commandCodes, List.contains_eq_mem, List.mem_cons, List.not_mem_nil, or_false, decide_eq_false_iff_not,
    not_or] at h
  have hlow : lowCommand code = none := by
    simp only [lowCommand, h, if_false]
  have hhigh : highCommand code = none := by
    simp only [highCommand, h, if_false]
  simp only [State.dispatch, h, if_false, hlow, hhigh]
  rfl

theorem exec_undefinedCommandCode {code : Byte} {s : State} (h : commandCodes.contains code = false)
    (hwrites : s.writesAt 0x5C#7 = true) :
    exec (.undefinedCommandCode code) s = .next (s.ended (.refused .badOperand)) :=
  (if_neg (Bool.not_eq_true _ ▸ h)).trans (atCommandRegister_of_writes hwrites State.undefinedCommand)

/-- Settles O37: the rows of the table are its codes' dispatches, and any other code's dispatch is the refusal. -/
theorem commandDispatch : Obligations.CommandDispatch := by
  refine fun s => ⟨fun code hcode hwrites => exec_undefinedCommandCode hcode hwrites,
    fun b hselected hwrites => ⟨?table, ?other⟩, fun hwrites x hx => ?nowhere⟩
  case table =>
    intro x hx
    rw [exec_registerWrite_command hselected hwrites, exec_commandTable x hx, if_pos hwrites]
  case other =>
    intro code hcode
    rw [exec_registerWrite_command hselected hwrites, dispatch_undefined hcode, exec_undefinedCommandCode hcode hwrites]
  case nowhere => rw [exec_commandTable x hx, if_neg (Bool.not_eq_true _ ▸ hwrites)]

end Sys2Proof.Machine
end

section
/-! SUPPORT. Bytes written to the settings: their codes, the shadows of the two-byte ones (11 R180). -/

namespace Sys2Proof.Machine

/-! ### Which address is which kind of setting (11 R180) -/

section Addresses

variable {a : Nat} {s : State}

theorem isSingleSetting_iff : isSingleSetting a = true ↔ a = 0x3A ∨ (0x46 ≤ a ∧ a ≤ 0x4B) := by
  simp [isSingleSetting]

theorem isLowerByte_iff : isLowerByte a = true ↔ a = 0x4C ∨ a = 0x4E := by
  simp [isLowerByte]

theorem isHigherByte_iff : isHigherByte a = true ↔ a = 0x4D ∨ a = 0x4F := by
  simp [isHigherByte]

/-- The kinds of settings share no address, with each other or with the ALERT control byte. -/
theorem storeByte_single (h : isSingleSetting a = true) (v : Byte) :
    s.storeByte a v = s.writeSetting (writeSingle a v) := by
  have haddress := isSingleSetting_iff.1 h
  rw [State.storeByte, if_neg (by omega), if_pos h]

theorem storeByte_lower (h : isLowerByte a = true) (v : Byte) : s.storeByte a v = s.writeSetting (writeLower a v) := by
  have haddress := isLowerByte_iff.1 h
  rw [State.storeByte, if_neg (by omega), if_neg (by rw [isSingleSetting_iff]; omega), if_pos h]

theorem storeByte_higher (h : isHigherByte a = true) (v : Byte) : s.storeByte a v = s.writeSetting (writeHigher a v) := by
  have haddress := isHigherByte_iff.1 h
  rw [State.storeByte, if_neg (by omega), if_neg (by rw [isSingleSetting_iff]; omega),
    if_neg (by rw [isLowerByte_iff]; omega), if_pos h]

end Addresses

/-! ### The rows of the settings (11 R180) -/

section Rows

variable {s : State} (hwriting : s.mgmt.transaction = .writing)

include hwriting

theorem writesIn_of_writing {p : Nat → Bool} (h : p s.mgmt.pointer.toNat = true) : s.writesIn p = true := by
  simp [State.writesIn, hwriting, h]

theorem exec_singleByteSettingWrite (h : isSingleSetting s.mgmt.pointer.toNat = true) (v : Byte) :
    exec (.singleByteSettingWrite v) s = .next (s.writeSetting (writeSingle s.mgmt.pointer.toNat v)).byteTaken :=
  if_pos (writesIn_of_writing hwriting h)

theorem exec_settingLowerByteWrite (h : isLowerByte s.mgmt.pointer.toNat = true) (v : Byte) :
    exec (.settingLowerByteWrite v) s = .next (s.writeSetting (writeLower s.mgmt.pointer.toNat v)).byteTaken :=
  if_pos (writesIn_of_writing hwriting h)

theorem exec_settingHigherByteWrite (h : isHigherByte s.mgmt.pointer.toNat = true) (v : Byte) :
    exec (.settingHigherByteWrite v) s = .next (s.writeSetting (writeHigher s.mgmt.pointer.toNat v)).byteTaken :=
  if_pos (writesIn_of_writing hwriting h)

/-- Away from the command register a byte written at the pointer is stored at its address. -/
theorem exec_registerWrite_store {b : Bus} (hselected : s.selects b = true) (h : s.mgmt.pointer.toNat ≠ 0x5C) (v : Byte) :
    exec (.registerWrite b v) s = .next (s.storeByte s.mgmt.pointer.toNat v).byteTaken := by
  rw [exec_registerWrite hselected hwriting, writeNext_elsewhere fun hp => h (congrArg BitVec.toNat hp)]

end Rows

/-! ### What a byte makes of the settings (11 R180) -/

theorem latch_none {α : Type} {value : Option α} (h : value = none) (put : α → Settings) (st : Settings) :
    latch value put st = st := by
  rw [h, latch]

theorem latch_some {α : Type} {value : Option α} {x : α} (h : value = some x) (put : α → Settings) (st : Settings) :
    latch value put st = put x := by
  rw [h, latch]

section Codes

variable {v : Byte} (st : Settings)

theorem writeSingle_snoop {x : Snoop} (h : snoopOfCode v.toNat = some x) : writeSingle 0x46 v st = { st with snoop := x } :=
  latch_some h _ st

theorem writeSingle_discardTime {x : DiscardTime} (h : discardTimeOfCode v.toNat = some x) :
    writeSingle 0x47 v st = { st with discardTime := x } := latch_some h _ st

theorem writeSingle_drainTime {x : DrainTime} (h : drainTimeOfCode v.toNat = some x) :
    writeSingle 0x48 v st = { st with drainTime := x } := latch_some h _ st

theorem writeSingle_quarantineTime {x : QuarantineTime} (h : quarantineTimeOfCode v.toNat = some x) :
    writeSingle 0x49 v st = { st with quarantineTime := x } := latch_some h _ st

/-- A defined value of a bit field is the byte's lower bits. -/
theorem fieldOfCode_byte {w : Nat} (h : v.toNat < 2 ^ w) : fieldOfCode w v.toNat = some (v.setWidth w) := by
  rw [fieldOfCode_of_lt h, BitVec.ofNat_toNat]

theorem writeSingle_threshold (h : v.toNat < 16) : writeSingle 0x4A v st = { st with threshold := v.setWidth 4 } :=
  latch_some (fieldOfCode_byte h) _ st

theorem writeSingle_masks (h : v.toNat < 128) : writeSingle 0x4B v st = { st with masks := v.setWidth 7 } :=
  latch_some (fieldOfCode_byte h) _ st

theorem writeSingle_enables (h : v.toNat < 32) : writeSingle 0x3A v st = { st with enables := v.setWidth 5 } :=
  latch_some (fieldOfCode_byte h) _ st

/-- An undefined code leaves every setting. -/
theorem writeSingle_undefined {a : Nat}
    (h : (a = 0x46 ∧ 1 < v.toNat) ∨ (a = 0x47 ∧ 3 < v.toNat) ∨ (a = 0x48 ∧ 4 < v.toNat) ∨ (a = 0x49 ∧ 3 < v.toNat)
      ∨ (a = 0x4A ∧ 15 < v.toNat) ∨ (a = 0x4B ∧ 127 < v.toNat) ∨ (a = 0x3A ∧ 31 < v.toNat)) :
    writeSingle a v st = st := by
  rcases h with ⟨rfl, hv⟩ | ⟨rfl, hv⟩ | ⟨rfl, hv⟩ | ⟨rfl, hv⟩ | ⟨rfl, hv⟩ | ⟨rfl, hv⟩ | ⟨rfl, hv⟩
  · exact latch_none (snoopOfCode_of_gt hv) _ st
  · exact latch_none (discardTimeOfCode_of_gt hv) _ st
  · exact latch_none (drainTimeOfCode_of_gt hv) _ st
  · exact latch_none (quarantineTimeOfCode_of_gt hv) _ st
  · exact latch_none (fieldOfCode_of_ge hv) _ st
  · exact latch_none (fieldOfCode_of_ge hv) _ st
  · exact latch_none (fieldOfCode_of_ge hv) _ st

/-- The nine bits of a two-byte setting: bit 0 of the higher byte above the lower byte. -/
theorem twoByteValue_defined (h : v.toNat < 2) (lo : Byte) :
    twoByteValue v lo = some (BitVec.ofNat 9 (256 * v.toNat + lo.toNat)) := by
  have hlo := lo.isLt
  exact fieldOfCode_of_lt (by omega)

theorem twoByteValue_undefined (h : 2 ≤ v.toNat) (lo : Byte) : twoByteValue v lo = none :=
  fieldOfCode_of_ge (by omega)

theorem writeHigher_int (h : v.toNat < 2) : writeHigher 0x4D v st =
    { st with routeInt := BitVec.ofNat 9 (256 * v.toNat + st.shadowInt.toNat) } := by
  rw [writeHigher, if_pos rfl, twoByteValue_defined h]

theorem writeHigher_alert (h : v.toNat < 2) : writeHigher 0x4F v st =
    { st with routeAlert := BitVec.ofNat 9 (256 * v.toNat + st.shadowAlert.toNat) } := by
  rw [writeHigher, if_neg (by decide), if_pos rfl, twoByteValue_defined h]

theorem writeHigher_int_ignored (h : 2 ≤ v.toNat) : writeHigher 0x4D v st =
    { st with shadowInt := st.routeInt.setWidth 8 } := by
  rw [writeHigher, if_pos rfl, twoByteValue_undefined h]

theorem writeHigher_alert_ignored (h : 2 ≤ v.toNat) : writeHigher 0x4F v st =
    { st with shadowAlert := st.routeAlert.setWidth 8 } := by
  rw [writeHigher, if_neg (by decide), if_pos rfl, twoByteValue_undefined h]

end Codes

/-- The state after a byte written to a setting: in LOADING the settings stand. -/
theorem byteTaken_writeSetting (f : Settings → Settings) (s : State) : (s.writeSetting f).byteTaken = { s with
    settings := if s.loader.phase = .loading then s.settings else f s.settings
    mgmt := { s.mgmt with pointer := s.mgmt.pointer + 1#7, sent := none } } := by
  unfold State.writeSetting
  split <;> rfl

/-- Settles O48: the codes by evaluation, the writes by what each row makes of the settings. -/
theorem settingsWritten : Obligations.SettingsWritten := by
  refine ⟨?codes, fun b v s hselected hwriting => ?register, fun v s hwriting => ?rows⟩
  case codes =>
    exact ⟨rfl, rfl, rfl, rfl, rfl, rfl, rfl, rfl, rfl, rfl, rfl, rfl, rfl, rfl, rfl, fun _ => snoopOfCode_of_gt,
      fun _ h => ⟨discardTimeOfCode_of_gt h, quarantineTimeOfCode_of_gt h⟩, fun _ => drainTimeOfCode_of_gt,
      rfl, rfl, rfl, rfl, rfl, rfl, rfl, rfl, rfl, rfl, rfl, rfl, rfl⟩
  case register =>
    intro p
    refine ⟨fun hp => ?single, fun hp => ?lower, fun hp => ?higher⟩
    case single =>
      have hkind : isSingleSetting p = true := isSingleSetting_iff.2 hp
      rw [exec_registerWrite_store hwriting hselected (by omega), storeByte_single hkind,
        exec_singleByteSettingWrite hwriting hkind]
    case lower =>
      have hkind : isLowerByte p = true := isLowerByte_iff.2 hp
      rw [exec_registerWrite_store hwriting hselected (by omega), storeByte_lower hkind,
        exec_settingLowerByteWrite hwriting hkind]
    case higher =>
      have hkind : isHigherByte p = true := isHigherByte_iff.2 hp
      rw [exec_registerWrite_store hwriting hselected (by omega), storeByte_higher hkind,
        exec_settingHigherByteWrite hwriting hkind]
  case rows =>
    intro p taken whole one higher
    have htaken (f : Settings → Settings) : (s.writeSetting f).byteTaken = taken (f s.settings) := byteTaken_writeSetting f s
    have hone {a : Nat} (hp : p = a) (ha : isSingleSetting a = true) {st : Settings}
        (hst : writeSingle a v s.settings = st) : one = .next (taken st) := by
      subst hp hst
      exact (exec_singleByteSettingWrite hwriting ha v).trans (congrArg _ (htaken _))
    have hlower {a : Nat} (hp : p = a) (ha : isLowerByte a = true) :
        exec (.settingLowerByteWrite v) s = .next (taken (writeLower a v s.settings)) := by
      subst hp
      exact (exec_settingLowerByteWrite hwriting ha v).trans (congrArg _ (htaken _))
    have hhigher {a : Nat} (hp : p = a) (ha : isHigherByte a = true) {st : Settings}
        (hst : writeHigher a v s.settings = st) : higher = .next (taken st) := by
      subst hp hst
      exact (exec_settingHigherByteWrite hwriting ha v).trans (congrArg _ (htaken _))
    exact ⟨fun hp _ hx => hone hp rfl (writeSingle_snoop _ hx), fun hp _ hx => hone hp rfl (writeSingle_discardTime _ hx),
      fun hp _ hx => hone hp rfl (writeSingle_drainTime _ hx), fun hp _ hx => hone hp rfl (writeSingle_quarantineTime _ hx),
      fun hp hv => hone hp rfl (writeSingle_threshold _ hv), fun hp hv => hone hp rfl (writeSingle_masks _ hv),
      fun hp hv => hone hp rfl (writeSingle_enables _ hv),
      fun h => hone rfl (isSingleSetting_iff.2 (by omega)) (writeSingle_undefined _ h),
      fun hp => hlower hp rfl, fun hp => hlower hp rfl,
      fun hp hv => hhigher hp rfl (writeHigher_int _ hv), fun hp hv => hhigher hp rfl (writeHigher_alert _ hv),
      fun hp hv => hhigher hp rfl (writeHigher_int_ignored _ hv),
      fun hp hv => hhigher hp rfl (writeHigher_alert_ignored _ hv)⟩

end Sys2Proof.Machine
end

section
/-! SUPPORT. Transactions on the selected interface, and the op that BATCH_LOAD's operand bytes spell (06 R102, 11 R175 to
R178, R181). -/

namespace Sys2Proof.Machine

/-! ### The selected interface (11 R175, R176) -/

section Selected

variable {s : State}

theorem selects_i2c (d : BitVec 7) : s.selects (.i2c d) = true ↔ s.mgmt.mode = .i2c ∧ d = s.mgmt.device := by
  simp [State.selects]

theorem selects_spi : s.selects .spi = true ↔ s.mgmt.mode = .spi := by
  simp [State.selects]

theorem readable_iff (b : Bus) : s.readable b = true ↔
    s.selects b = true ∧ (s.mgmt.transaction = .reading ∨ (s.mgmt.transaction = .none ∧ s.mgmt.mode = .i2c)) := by
  simp [State.readable]

theorem readable_of_not_selected {b : Bus} (h : s.selects b = false) : s.readable b = false := by
  rw [State.readable, h, Bool.false_and]

/-! ### Bytes that change nothing (11 R175, R176; log 10) -/

theorem exec_pointerSet_ignored {b : Bus} (h : s.selects b = false ∨ s.mgmt.transaction ≠ .none) (v : Byte) :
    exec (.pointerSet b v) s = .next s := by
  refine if_neg fun ⟨hselected, hnone⟩ => ?_
  rcases h with h | h
  · exact Bool.false_ne_true (h.symm.trans hselected)
  · exact h hnone

theorem exec_registerWrite_ignored {b : Bus} (h : s.selects b = false ∨ s.mgmt.transaction ≠ .writing) (v : Byte) :
    exec (.registerWrite b v) s = .next s := by
  refine if_neg fun ⟨hselected, hwriting⟩ => ?_
  rcases h with h | h
  · exact Bool.false_ne_true (h.symm.trans hselected)
  · exact h hwriting

theorem exec_read_ignored {b : ReadBus} (h : s.readable (busOf b) = false) :
    exec (.multiByteCaptureRead b) s = .next s ∧ exec (.eventRegisterRead b) s = .next s := by
  have hclosed : ¬ s.readable (busOf b) = true := Bool.not_eq_true _ ▸ h
  exact ⟨if_neg hclosed, if_neg fun ⟨hreadable, _⟩ => hclosed hreadable⟩

theorem exec_transactionEnd_ignored {x : Interface} (h : x ≠ s.mgmt.mode) : exec (.transactionEnd x) s = .next s := if_neg h

/-! ### A transaction begins and ends (11 R176, R177) -/

theorem exec_pointerSet {b : Bus} (hselected : s.selects b = true) (hnone : s.mgmt.transaction = .none) (v : Byte) :
    exec (.pointerSet b v) s = .next (s.setPointer v) := if_pos ⟨hselected, hnone⟩

/-- On I2C bit 7 of the first byte says nothing: the transaction is a write. -/
theorem setPointer_i2c (h : s.mgmt.mode = .i2c) (v : Byte) : s.setPointer v = { s with
    mgmt := { s.mgmt with pointer := v.setWidth 7, captures := Captures.none, transaction := .writing, sent := none } } := by
  simp [State.setPointer, h]

/-- On SPI bit 7 of the first byte is the read flag, and the part drives 0 during that byte. -/
theorem setPointer_spi (h : s.mgmt.mode = .spi) (v : Byte) : s.setPointer v = { s with
    mgmt := { s.mgmt with
      pointer := v.setWidth 7
      captures := Captures.none
      transaction := if v.getLsbD 7 then .reading else .writing
      sent := some 0#8 } } := by
  simp [State.setPointer, h]

theorem exec_transactionEnd : exec (.transactionEnd s.mgmt.mode) s = .next { s with
    mgmt := { s.mgmt with transaction := .none, captures := Captures.none, sent := none } } := if_pos rfl

/-! ### A byte stored at an address that is no setting (11 R178, R181) -/

/-- Outside the settings and the ALERT control byte only an operand byte is kept. -/
theorem storeByte_port {a : Nat} (hlow : a < 0x38 ∨ a = 0x39 ∨ (0x3B ≤ a ∧ a < 0x46) ∨ 0x4F < a) (v : Byte) :
    s.storeByte a v =
      if 0x50 ≤ a ∧ a ≤ 0x5B then
        { s with mgmt := { s.mgmt with operands := s.mgmt.operands.set (Fin.ofNat 12 (a - 0x50)) v } }
      else s := by
  rw [State.storeByte, if_neg (by omega), if_neg (by rw [isSingleSetting_iff]; omega),
    if_neg (by rw [isLowerByte_iff]; omega), if_neg (by rw [isHigherByte_iff]; omega)]

theorem storeByte_operand (k : Fin 12) (v : Byte) : s.storeByte (0x50 + k.val) v =
    { s with mgmt := { s.mgmt with operands := s.mgmt.operands.set k v } } := by
  have hindex : Fin.ofNat 12 (0x50 + k.val - 0x50) = k := by
    rw [Nat.add_sub_cancel_left]
    exact Fin.ofNat_val_eq_self k
  rw [storeByte_port (by omega), if_pos (by omega)]
  simp only [hindex]

theorem storeByte_ignored {a : Nat} (h : a < 0x38 ∨ a = 0x39 ∨ (0x3B ≤ a ∧ a < 0x46) ∨ 0x5C < a) (v : Byte) :
    s.storeByte a v = s := by
  rw [storeByte_port (by omega), if_neg (by omega)]

end Selected

/-! ### The op that the operand bytes spell (06 R102, 11 R181) -/

section Op

variable {s : State}

/-- Three bytes, least significant first, as one field. -/
theorem ofNat_three_bytes (x y z : Byte) :
    BitVec.ofNat 24 (x.toNat + 256 * y.toNat + 65536 * z.toNat) = z ++ y ++ x := by
  have hx := x.isLt
  have hy := y.isLt
  have hz := z.isLt
  refine BitVec.eq_of_toNat_eq ?_
  rw [BitVec.toNat_append, ← Nat.shiftLeft_add_eq_or_of_lt hx, BitVec.toNat_append, ← Nat.shiftLeft_add_eq_or_of_lt hy,
    BitVec.toNat_ofNat]
  simp only [Nat.shiftLeft_eq]
  omega

theorem operandOp_badIndex (h : 4095 < operandPair s 2 3) : operandOp s = none := by
  rw [operandOp, indexBelow_of_ge h]

/-- With an index in range the kind code decides (06 R102). -/
theorem operandOp_inRange {i : EntryIx} (h : i.val = operandPair s 2 3) : operandOp s =
    if operandByte s 0 = 1 then
      some (.install i ⟨s.mgmt.operands[6] ++ s.mgmt.operands[5] ++ s.mgmt.operands[4],
        operandAccess s.mgmt.operands[7], operandSnoop s.mgmt.operands[7], s.mgmt.operands[8]⟩
        (s.mgmt.operands[1].getLsbD 0))
    else if operandByte s 0 = 2 then
      some (.amend i (if s.mgmt.operands[1].getLsbD 1 then some (operandAccess s.mgmt.operands[7]) else none)
        (if s.mgmt.operands[1].getLsbD 2 then some (operandSnoop s.mgmt.operands[7]) else none)
        (if s.mgmt.operands[1].getLsbD 3 then some s.mgmt.operands[8] else none) (s.mgmt.operands[1].getLsbD 0))
    else if operandByte s 0 = 3 then
      if s.mgmt.operands[1].getLsbD 0 then none else some (.revoke i)
    else none := by
  rw [operandOp, indexBelow_of_eq i h, ← ofNat_three_bytes]
  rfl

/-- A kind code that names no op, or a REVOKE with BAD_PARITY, is malformed whatever the index (06 R102). -/
theorem operandOp_badKind (h : operandByte s 0 = 0 ∨ 3 < operandByte s 0
    ∨ (operandByte s 0 = 3 ∧ s.mgmt.operands[1].getLsbD 0 = true)) : operandOp s = none := by
  rcases Nat.lt_or_ge 4095 (operandPair s 2 3) with hindex | hindex
  · exact operandOp_badIndex hindex
  · rw [operandOp_inRange (i := ⟨operandPair s 2 3, by omega⟩) rfl, if_neg (by omega), if_neg (by omega)]
    rcases h with h | h | ⟨h, hparity⟩
    · exact if_neg (by omega)
    · exact if_neg (by omega)
    · rw [if_pos h, if_pos hparity]

end Op

/-- Settles O49: which bytes are the part's, the op spelled, and what a byte of the part's does. -/
theorem transactionsRun : Obligations.TransactionsRun := by
  refine ⟨fun s => ?selected, fun s => ?op, fun b v s hselected => ?bytes⟩
  case selected =>
    exact ⟨selects_spi, selects_i2c, selects_i2c, rfl, rfl, fun _ _ => rfl,
      fun b v h => ⟨exec_pointerSet_ignored (.inl h) v, exec_registerWrite_ignored (.inl h) v⟩,
      fun b h => exec_read_ignored (readable_of_not_selected h), fun x => exec_transactionEnd_ignored,
      fun b v => ⟨fun h => exec_pointerSet_ignored (.inr h) v, fun h => exec_registerWrite_ignored (.inr h) v⟩,
      readable_iff, fun b => exec_read_ignored⟩
  case op =>
    intro o index access snoop
    have hkind {n : Nat} (hn : n < 256) : o[0] = BitVec.ofNat 8 n ↔ operandByte s 0 = n := by
      rw [← BitVec.toNat_inj, BitVec.toNat_ofNat, Nat.mod_eq_of_lt hn]
      exact Iff.rfl
    refine ⟨fun k => rfl, fun h => ?malformed, fun i hi => ⟨fun h => ?install, fun h => ?amend, fun h hparity => ?revoke⟩⟩
    case malformed =>
      rcases h with h | h | h | ⟨h, hparity⟩
      · exact operandOp_badIndex h
      · exact operandOp_badKind (.inl ((hkind (by decide)).1 h))
      · exact operandOp_badKind (.inr (.inl h))
      · exact operandOp_badKind (.inr (.inr ⟨(hkind (by decide)).1 h, hparity⟩))
    case install => exact (operandOp_inRange hi).trans (if_pos ((hkind (by decide)).1 h))
    case amend =>
      have hcode : operandByte s 0 = 2 := (hkind (by decide)).1 h
      exact (operandOp_inRange hi).trans ((if_neg (by omega)).trans (if_pos hcode))
    case revoke =>
      have hcode : operandByte s 0 = 3 := (hkind (by decide)).1 h
      rw [operandOp_inRange hi, if_neg (by omega), if_neg (by omega), if_pos hcode]
      exact if_neg (Bool.not_eq_true _ ▸ hparity)
  case bytes =>
    intro begun p after
    refine ⟨fun hnone hmode => ?i2c, fun hnone hmode => ?spi, fun k hwriting hp => ?operand, fun hwriting hp => ?ignored,
      exec_transactionEnd⟩
    case i2c => rw [exec_pointerSet hselected hnone, setPointer_i2c hmode]
    case spi => rw [exec_pointerSet hselected hnone, setPointer_spi hmode]
    case operand =>
      have haddress : s.mgmt.pointer.toNat = 0x50 + k.val := hp
      rw [exec_registerWrite_store hwriting hselected (by omega), haddress, storeByte_operand]
      rfl
    case ignored =>
      rw [exec_registerWrite_store hwriting hselected (by omega), storeByte_ignored hp]
      rfl

end Sys2Proof.Machine
end

section
/-! SUPPORT. The result bytes of the READ_ queries, record by record, and how a query ends (11 R182; 04 R82, 05 R99, 06 R122,
07 R137, 09 R162). -/

namespace Sys2Proof.Machine

/-! ### Numbers as bytes (11 R178) -/

theorem leBytes_three (n : Nat) : leBytes 3 n = [BitVec.ofNat 8 n, BitVec.ofNat 8 (n / 256), BitVec.ofNat 8 (n / 65536)] := by
  rw [show n / 65536 = n / 256 / 256 by omega]
  rfl

theorem leBytes_five (a : Address) : leBytes 5 a.toNat =
    [a.setWidth 8, a.extractLsb' 8 8, a.extractLsb' 16 8, a.extractLsb' 24 8, a.extractLsb' 32 8] := by
  simp only [leBytes, BitVec.extractLsb', Nat.shiftRight_eq_div_pow, Nat.div_div_eq_div_mul, BitVec.ofNat_toNat,
    Nat.reducePow, Nat.reduceMul]

theorem leBytes_zero (n : Nat) : leBytes n 0 = List.replicate n 0#8 := by
  induction n with
  | zero => rfl
  | succ n ih => rw [leBytes, Nat.zero_div, ih, List.replicate_succ]

theorem leOption_none (n : Nat) : leOption n none = List.replicate n 0#8 := leBytes_zero n

/-! ### READ_ENTRY -/

theorem placementFlags_eq (p : Placement) : placementFlags p =
    BitVec.ofNat 8 ((if p.access = .readWrite then 1 else 0) + if p.snoop = .direct then 2 else 0) := by
  have haccess : (accessCode p.access == 1) = decide (p.access = .readWrite) := by
    cases p.access <;> rfl
  have hsnoop : (snoopCode p.snoop == 1) = decide (p.snoop = .direct) := by
    cases p.snoop <;> rfl
  simp only [placementFlags, haccess, hsnoop, bitAt_or_bitAt_eq, decide_eq_true_eq]

section Entry

variable {e : GrantEntry}

theorem entryBytes_placed {p : Placement} (h : placementOf e.contents = some p) (poisoned : Bool) : entryBytes e poisoned =
    [BitVec.ofNat 8 (contentsCode e.contents)]
      ++ (leBytes 3 p.frame.toNat
        ++ [BitVec.ofNat 8 ((if p.access = .readWrite then 1 else 0) + if p.snoop = .direct then 2 else 0), p.domains])
      ++ (BitVec.ofNat 8 e.claimCount.val :: leBytes 2 e.generation.toNat)
      ++ [BitVec.ofNat 8 (1 + if poisoned then 2 else 0)] := by
  rw [← placementFlags_eq, entryBytes, h]
  exact congrArg (_ ++ [·]) (bitAt_or_bitAt_eq true poisoned)

theorem entryBytes_unplaced (h : placementOf e.contents = none) (poisoned : Bool) : entryBytes e poisoned =
    [BitVec.ofNat 8 (contentsCode e.contents)] ++ List.replicate 5 0#8
      ++ (BitVec.ofNat 8 e.claimCount.val :: leBytes 2 e.generation.toNat)
      ++ [BitVec.ofNat 8 (if poisoned then 2 else 0)] := by
  rw [entryBytes, h, ← Nat.zero_add (if poisoned then 2 else 0)]
  exact congrArg (_ ++ [·]) (bitAt_or_bitAt_eq false poisoned)

end Entry

/-! ### READ_CLAIM -/

/-- The byte that names the slot a claim is carried by. -/
def carrierByte : Option SlotIx → Byte
  | none => 0#8
  | some k => BitVec.ofNat 8 (128 + k.val)

theorem carrierByte_eq (x : Option SlotIx) :
    BitVec.ofNat 8 ((x.map (·.val)).getD 0) ||| bitAt 7 x.isSome = carrierByte x := by
  cases x with
  | none => rfl
  | some k =>
    have hk := k.isLt
    have hclear : k.val.testBit 7 = false := Nat.testBit_lt_two_pow (by omega)
    exact (ofNat_or_bitAt (by decide) hclear true).trans (congrArg _ (Nat.add_comm _ _))

theorem claimBytes_free (carrier : Option SlotIx) :
    claimBytes .free carrier = List.replicate 7 0#8 ++ [carrierByte carrier, 0#8] := by
  rw [← carrierByte_eq]
  rfl

theorem claimBytes_held {r : ClaimRecord} {c : Claim} (h : claimOf r = some c) (carrier : Option SlotIx) :
    claimBytes r carrier = BitVec.ofNat 8 (claimCode r) :: ([BitVec.ofNat 8 c.requester.val] ++ leBytes 2 c.entry.val
      ++ leBytes 2 c.generation.toNat ++ [if c.dir = .write then 1#8 else 0#8, carrierByte carrier, 1#8]) := by
  have hdir : BitVec.ofNat 8 (dirCode c.dir) = if c.dir = .write then 1#8 else 0#8 := by
    cases c.dir <;> rfl
  rw [← carrierByte_eq, ← hdir, claimBytes, h]
  rfl

/-! ### READ_PENDING -/

theorem requestBytes_some (q : Request) (i : EntryIx) : requestBytes (some q) (some i) =
    [BitVec.ofNat 8 q.requester.val] ++ leBytes 5 q.address.toNat
      ++ [BitVec.ofNat 8 ((if q.dir = .write then 1 else 0) + if q.claim then 2 else 0)] ++ leBytes 2 i.val := by
  have hflags : bitAt 0 (some q.dir == some .write) ||| bitAt 1 q.claim =
      BitVec.ofNat 8 ((if q.dir = .write then 1 else 0) + if q.claim then 2 else 0) := by
    rw [bitAt_or_bitAt_eq]
    cases q.dir <;> rfl
  rw [← hflags]
  rfl

/-- Five flags side by side. -/
theorem bitAt_five (a b c d e : Bool) : bitAt 0 a ||| bitAt 1 b ||| bitAt 2 c ||| bitAt 3 d ||| bitAt 4 e =
    BitVec.ofNat 8 ((if a then 1 else 0) + (if b then 2 else 0) + (if c then 4 else 0) + (if d then 8 else 0)
      + if e then 16 else 0) := by
  revert a b c d e
  decide

/-- The address of an answer, where it gives one. -/
def placeBytes : Option (Snoop × Address) → List Byte
  | none => List.replicate 5 0#8
  | some (_, x) => leBytes 5 x.toNat

theorem placeBytes_eq (place : Option (Snoop × Address)) : leOption 5 (place.map (·.2.toNat)) = placeBytes place := by
  cases place with
  | none => exact leOption_none 5
  | some x => rfl

theorem answerBytes_some (a : Response) : answerBytes (some a) =
    [BitVec.ofNat 8 (outcomeCode a.verdict), BitVec.ofNat 8 (reasonCode a.verdict),
        BitVec.ofNat 8 ((if a.place.isSome then 1 else 0) + (if a.generation.isSome then 2 else 0)
          + (if a.tag.isSome then 4 else 0) + (if a.entry.isSome then 8 else 0)
          + (if a.place.map (·.1) = some .direct then 16 else 0))]
      ++ placeBytes a.place ++ leBytes 2 ((a.generation.map (·.toNat)).getD 0)
      ++ [BitVec.ofNat 8 ((a.tag.map (·.val)).getD 0)] ++ leBytes 2 ((a.entry.map (·.val)).getD 0) := by
  have hflags := bitAt_five a.place.isSome a.generation.isSome a.tag.isSome a.entry.isSome
    (a.place.map (·.1) == some .direct)
  simp only [beq_iff_eq] at hflags
  rw [← hflags, ← placeBytes_eq]
  rfl

theorem answerBytes_none : answerBytes none = List.replicate 13 0#8 := by decide

theorem slotBytes_empty (now : Time) : slotBytes now .empty = List.replicate 27 0#8 := by
  have hrequest : requestBytes none none = List.replicate 9 0#8 := by decide
  have hflags : bitAt 0 false ||| bitAt 1 false = 0#8 := by decide
  simp only [slotBytes, slotRequest, slotPage, storedAnswer, slotDeadline, hrequest, answerBytes_none, Option.isSome_none,
    hflags, Option.map_none, leOption_none]
  rfl

theorem slotBytes_waiting (now : Time) (q : Request) (i : EntryIx) : slotBytes now (.waiting q i) =
    [1#8] ++ requestBytes (some q) (some i) ++ List.replicate 16 0#8 ++ [1#8] := by
  simp only [slotBytes, slotRequest, slotPage, storedAnswer, slotDeadline, answerBytes_none, bitAt_or_bitAt_eq,
    Option.map_none, leOption_none, List.append_assoc]
  rfl

theorem slotBytes_ready (now deadline : Time) (q : Request) (i : EntryIx) (a : Response) :
    slotBytes now (.ready q i a deadline) = [2#8] ++ requestBytes (some q) (some i) ++ answerBytes (some a)
      ++ leBytes 3 ((deadline - now) / 1000) ++ [3#8] := by
  simp only [slotBytes, slotRequest, slotPage, storedAnswer, slotDeadline, bitAt_or_bitAt_eq]
  rfl

/-! ### READ_DRAIN -/

theorem drainBytes_none (now : Time) : drainBytes now none = List.replicate 7 0#8 := by
  have habsent : bitAt 0 ((none : Option (Option Time)) == some none) = 0#8 := by decide
  simp only [drainBytes, Option.isSome_none, Option.map_none, Option.bind_none, leOption_none, habsent]
  rfl

/-- An item that no deadline ends is marked, and its time left reads 0. -/
theorem drainBytes_unlimited (now : Time) (i : EntryIx) : drainBytes now (some ⟨i, none⟩) =
    [1#8] ++ leBytes 2 i.val ++ [1#8] ++ List.replicate 3 0#8 := by
  have hpresent : bitAt 0 true = 1#8 := by decide
  simp only [drainBytes, Option.isSome_some, Option.map_some, Option.bind_some, BEq.rfl, hpresent, Option.map_none,
    leOption_none]
  rfl

theorem drainBytes_deadline (now deadline : Time) (i : EntryIx) : drainBytes now (some ⟨i, some deadline⟩) =
    [1#8] ++ leBytes 2 i.val ++ [0#8] ++ leBytes 3 ((deadline - now) / 1000) := rfl

/-! ### READ_REQUESTER -/

/-- The byte of a requester's deadline and clearing: the clearing's code stands above the deadline's presence bit. -/
theorem clearingByte_eq (present : Bool) (c : Option Clearing) :
    bitAt 0 present ||| BitVec.ofNat 8 (2 * clearingCode c) =
      BitVec.ofNat 8 ((if present then 1 else 0) + 2 * clearingCode c) := by
  have hclear : (2 * clearingCode c).testBit 0 = false := by
    rw [Nat.testBit_zero, decide_eq_false_iff_not]
    omega
  rw [BitVec.or_comm, ofNat_or_bitAt (by decide) hclear, Nat.add_comm]
  rfl

/-- The deadline of a requester with its clearing's code: a mark and the time left where there is one. -/
def deadlineBytes (now : Time) (clearing : Nat) : Option Time → List Byte
  | none => BitVec.ofNat 8 clearing :: List.replicate 3 0#8
  | some x => BitVec.ofNat 8 (1 + clearing) :: leBytes 3 ((x - now) / 1000)

theorem deadlineBytes_eq (now : Time) (deadline : Option Time) (c : Option Clearing) :
    (bitAt 0 deadline.isSome ||| BitVec.ofNat 8 (2 * clearingCode c)) :: leOption 3 (deadline.map (timeLeft now)) =
      deadlineBytes now (2 * clearingCode c) deadline := by
  rw [clearingByte_eq]
  cases deadline with
  | none => rw [Option.map_none, leOption_none, Option.isSome_none, if_neg Bool.false_ne_true, Nat.zero_add, deadlineBytes]
  | some x => rfl

theorem requesterBytes_eq (now : Time) (q : Requester) (d : RequesterDefault) : requesterBytes now q d =
    [BitVec.ofNat 8 (standingCode q.standing), BitVec.ofNat 8 q.domain.val, BitVec.ofNat 8 q.limit.val,
        BitVec.ofNat 8 q.faults.val]
      ++ deadlineBytes now (2 * clearingCode q.clearing) q.deadline
      ++ [bitAt 0 d.enabled, BitVec.ofNat 8 d.domain.val, BitVec.ofNat 8 d.limit.val] := by
  rw [← deadlineBytes_eq]
  rfl

/-! ### READ_SWEEP_RESULT and READ_COMMIT_RESULT -/

theorem sweepBytes_domainSweep (x : WalkEnd) (d : Domain) (c : SweepCounts) (poisoned cursor : Nat) :
    sweepBytes (some ⟨x, .domainSweep d c, poisoned, cursor⟩) =
      [BitVec.ofNat 8 (walkEndCode x), 0#8, BitVec.ofNat 8 d.val] ++ leBytes 2 c.changed ++ leBytes 2 c.vacated
        ++ leBytes 2 c.draining ++ [BitVec.ofNat 8 c.skipped] ++ leBytes 2 poisoned ++ leBytes 2 cursor ++ [3#8] := rfl

theorem sweepBytes_scrub (x : WalkEnd) (poisoned cursor : Nat) : sweepBytes (some ⟨x, .scrub, poisoned, cursor⟩) =
    [BitVec.ofNat 8 (walkEndCode x), 1#8] ++ List.replicate 8 0#8 ++ leBytes 2 poisoned ++ leBytes 2 cursor ++ [1#8] := rfl

theorem commitBytes_rejected (g : Group) (n : Nat) (reason : RejectReason) (i : EntryIx) (position : Nat) :
    commitBytes (.rejected g n reason i position) =
      [3#8, BitVec.ofNat 8 g.val, BitVec.ofNat 8 n, BitVec.ofNat 8 (rejectCode reason)] ++ leBytes 2 i.val
        ++ [BitVec.ofNat 8 position] ++ List.replicate 5 0#8 ++ [0b01111#8] := rfl

/-! ### How a query ends (11 R182) -/

/-- The query ends DONE in `u` with these result bytes, unused ones 0. -/
def AnsweredBy (o : Host.Outcome State Fault Refusal) (u : State) (bytes : List Byte) : Prop :=
  ∃ results, o = .next (State.ended { u with mgmt := { u.mgmt with results := results } } .done)
    ∧ ∀ k : Fin 32, results[k] = bytes.getD k.val 0#8

section Query

variable {s : State} (hwrites : s.writesAt 0x5C#7 = true)

include hwrites

theorem query_answered {answer : State → Option (State × List Byte)} {u : State} {bytes : List Byte}
    (h : answer s = some (u, bytes)) : AnsweredBy (atCommandRegister (State.query answer) s) u bytes := by
  refine ⟨tabulate fun k => bytes.getD k.val 0#8, ?_, fun k => tabulate_get _ k.val k.isLt⟩
  rw [atCommandRegister_of_writes hwrites, State.query, h]

theorem query_refused {answer : State → Option (State × List Byte)} (h : answer s = none) :
    atCommandRegister (State.query answer) s = .next (s.ended (.refused .badOperand)) := by
  rw [atCommandRegister_of_writes hwrites, State.query, h]

/-! A query of one record of a row of `n`, whose number is an operand. -/

section Indexed

variable {n : Nat} (number : State → Nat) (bytes : State → Fin n → List Byte)

theorem indexedQuery_refused (h : n ≤ number s) :
    atCommandRegister (State.query fun s => (indexBelow n (number s)).map fun k => (s, bytes s k)) s =
      .next (s.ended (.refused .badOperand)) :=
  query_refused hwrites (by rw [indexBelow_of_ge h]; rfl)

theorem indexedQuery_answered {k : Fin n} (h : k.val = number s) :
    AnsweredBy (atCommandRegister (State.query fun s => (indexBelow n (number s)).map fun k => (s, bytes s k)) s) s
      (bytes s k) :=
  query_answered hwrites (by rw [indexBelow_of_eq k h]; rfl)

end Indexed

theorem exec_readEntry_refused (h : 4095 < operandPair s 0 1) :
    exec .readEntry s = .next (s.ended (.refused .badOperand)) :=
  query_refused hwrites (by rw [State.readEntryAnswer, indexBelow_of_ge h])

/-- The entry is read with the parity check before it is shown (01 R16). -/
theorem exec_readEntry_answered {i : EntryIx} (h : i.val = operandPair s 0 1) :
    AnsweredBy (exec .readEntry s) (settle s (s.readEntry .hostRead i))
      (entryBytes ((s.readEntry .hostRead i).entry i) (s.readFails i)) :=
  query_answered hwrites (by rw [State.readEntryAnswer, indexBelow_of_eq i h])

end Query

/-- Settles O45: record by record what the bytes are, then query by query how it ends. -/
theorem queriesAnswer : Obligations.QueriesAnswer := by
  unfold Obligations.QueriesAnswer
  intro byte two three five zeros
  have hthree : three = leBytes 3 := (funext leBytes_three).symm
  have hfive : five = fun a => leBytes 5 a.toNat := (funext leBytes_five).symm
  rw [hthree, hfive]
  refine ⟨fun e poisoned => ?entry, fun c carrier => ?claim, fun now deadline q i a => ?pending,
    fun now deadline i => ⟨drainBytes_none now, drainBytes_unlimited now i, drainBytes_deadline now deadline i⟩,
    fun now q d => ?requester, fun x d c poisoned cursor => ?sweep, fun g n position t reason i => ?commit,
    fun t s => ?carrier, fun s hwrites => ?queries⟩
  case entry =>
    intro counts found placed
    have hplacement {x : Contents} (h : e.contents = x) : placementOf e.contents = placementOf x := congrArg _ h
    refine ⟨fun h => ?vacant, fun p h => ?live, fun p h => ?revoking, fun h => ?poisoned⟩
    case vacant =>
      rw [entryBytes_unplaced (hplacement h), h]
      rfl
    case live =>
      rw [entryBytes_placed (hplacement h), h]
      rfl
    case revoking =>
      rw [entryBytes_placed (hplacement h), h]
      rfl
    case poisoned =>
      rw [entryBytes_unplaced (hplacement h), h]
      rfl
  case claim =>
    intro carried held
    have hcarried : carried = carrierByte carrier := by
      cases carrier <;> rfl
    dsimp only [held]
    rw [hcarried]
    exact ⟨claimBytes_free carrier, claimBytes_held rfl carrier, claimBytes_held rfl carrier⟩
  case pending =>
    intro request present answer
    have hrequest : requestBytes (some q) (some i) = request := requestBytes_some q i
    have hanswer : answerBytes (some a) = answer := answerBytes_some a
    exact ⟨slotBytes_empty now, by rw [slotBytes_waiting, hrequest], by rw [slotBytes_ready, hrequest, hanswer]⟩
  case requester =>
    intro standing clearing
    have hstanding : standing = BitVec.ofNat 8 (standingCode q.standing) := by
      dsimp only [standing]
      cases q.standing <;> rfl
    have hclearing : clearing = 2 * clearingCode q.clearing := by
      dsimp only [clearing]
      cases q.clearing with
      | none => rfl
      | some c => cases c <;> rfl
    have henabled : (if d.enabled then 1#8 else 0#8) = bitAt 0 d.enabled := by
      cases d.enabled <;> rfl
    rw [hstanding, hclearing, henabled]
    exact requesterBytes_eq now q d
  case sweep =>
    intro ending
    have hending : ending = BitVec.ofNat 8 (walkEndCode x) := by
      dsimp only [ending]
      cases x <;> rfl
    rw [hending]
    exact ⟨rfl, sweepBytes_domainSweep x d c poisoned cursor, sweepBytes_scrub x poisoned cursor⟩
  case commit =>
    intro code
    have hcode : code = BitVec.ofNat 8 (rejectCode reason) := by
      dsimp only [code]
      cases reason <;> rfl
    rw [hcode]
    exact ⟨rfl, rfl, rfl, commitBytes_rejected g n reason i position, rfl, rfl⟩
  case carrier =>
    refine ⟨⟨fun h k => beq_eq_false_iff_ne.1 (find_finRange_none.1 h k), carrier_eq_none⟩, fun k h => ?_⟩
    exact beq_iff_eq.1 (find_finRange_some.1 h).1
  case queries =>
    intro b0 answered bad
    exact ⟨exec_readEntry_refused hwrites, fun i => exec_readEntry_answered hwrites,
      fun h => indexedQuery_refused hwrites _ _ h, fun t ht => indexedQuery_answered hwrites _ _ ht,
      fun h => indexedQuery_refused hwrites _ _ h, fun k hk => indexedQuery_answered hwrites _ _ hk,
      fun h => indexedQuery_refused hwrites _ _ h,
      fun h => indexedQuery_answered hwrites (k := ⟨b0, Nat.lt_succ_of_le h⟩) _ _ rfl,
      fun h => indexedQuery_refused hwrites _ _ h, fun r hr => indexedQuery_answered hwrites _ _ hr,
      query_answered hwrites rfl, query_answered hwrites rfl⟩

end Sys2Proof.Machine
end

section
/-! SUPPORT. The image as it is read, the load piece by piece, and the ends of the load and of the preload reload
(12 R183, R187, R189). -/

namespace Sys2Proof.Machine

/-! ### The image as it is read (12 R183) -/

/-- Sixteen-bit words added up one after another. -/
theorem toNat_foldl_add (l : List ImageWord) (x : ImageWord) :
    (l.foldl (fun x w => x + w) x).toNat = (x.toNat + (l.map BitVec.toNat).sum) % 65536 := by
  induction l generalizing x with
  | nil => exact (Nat.mod_eq_of_lt x.isLt).symm
  | cons w l ih =>
    rw [List.foldl_cons, ih, BitVec.toNat_add, Nat.mod_add_mod, List.map_cons, List.sum_cons, Nat.add_assoc]

theorem imageLength_le (m : List Byte) : imageLength m ≤ 65535 := Nat.le_of_lt_succ (nvmWord m 1).isLt

theorem imageSum_toNat (m : List Byte) :
    (imageSum m).toNat = ((List.range (imageLength m)).map (nvmNat m)).sum % 65536 := by
  have hlength := imageLength_le m
  unfold imageSum
  rw [toNat_foldl_add, nvmWords_words m (by omega), List.map_map, BitVec.toNat_ofNat, Nat.zero_mod, Nat.zero_add]
  simp only [Function.comp_def, Nat.zero_add]
  rfl

theorem imageFails_iff (m : List Byte) : imageFails m = true ↔ nvmNat m 0 ≠ 0x7C4E ∨ imageLength m < 7
    ∨ ((List.range (imageLength m)).map (nvmNat m)).sum % 65536 ≠ 0 := by
  have hsignature : nvmWord m 0 ≠ 0x7C4E#16 ↔ nvmNat m 0 ≠ 0x7C4E := BitVec.toNat_ne_iff_ne.symm
  have hsum : imageSum m ≠ 0#16 ↔ ((List.range (imageLength m)).map (nvmNat m)).sum % 65536 ≠ 0 := by
    rw [← imageSum_toNat]
    exact BitVec.toNat_ne_iff_ne.symm
  unfold imageFails
  rw [Bool.or_eq_true, Bool.or_eq_true, bne_iff_ne, bne_iff_ne, decide_eq_true_eq, or_assoc, hsignature, hsum]

section Section

variable {m : List Byte} {k : Nat}

theorem sectionAt_absent (h : nvmNat m k = 0xFFFF) : sectionAt m k = .absent := if_pos h

theorem sectionAt_misplaced (h : nvmNat m k ≠ 0xFFFF) (hout : nvmNat m k < 6 ∨ imageLength m ≤ nvmNat m k + 1
    ∨ imageLength m ≤ nvmNat m k + 1 + nvmNat m (nvmNat m k)) : sectionAt m k = .misplaced := by
  unfold sectionAt
  dsimp only
  rw [if_neg h]
  split
  · rfl
  · exact if_pos (by omega)

theorem sectionAt_placed (h : nvmNat m k ≠ 0xFFFF) (hin : ¬ (nvmNat m k < 6 ∨ imageLength m ≤ nvmNat m k + 1
    ∨ imageLength m ≤ nvmNat m k + 1 + nvmNat m (nvmNat m k))) :
    sectionAt m k = .placed (nvmNat m k) (nvmNat m (nvmNat m k)) := by
  unfold sectionAt
  dsimp only
  rw [if_neg h, if_neg (by omega), if_neg (by omega)]

end Section

/-! ### The pieces of the load (12 R183, log 5) -/

/-- The image is being loaded, and RESET is high (log 9). -/
structure ImageLoading (s : State) : Prop where
  phase : s.loader.phase = .loading
  resetHigh : s.resetLow = false

/-- The part enters RUNNING at the end of the image load: BOOT_DONE is raised and the shadows are made equal (R187). -/
def State.running (s : State) : State := { s with
  loader := { s.loader with phase := .running, work := .nothing }
  settings := equalizeShadows s.settings
  errors := raiseEvent .bootDone s.errors }

theorem enterRunning_of_loading {s : State} (h : s.loader.phase = .loading) : s.enterRunning = s.running := by
  unfold State.enterRunning
  rw [if_pos h]
  rfl

@[simp] theorem loadPiece_resetLow (s : State) : s.loadPiece.resetLow = s.resetLow := by
  obtain ⟨_, _, _, _, _, _, h⟩ := State.loadPiece_shape s
  rw [h]

theorem imageLoading_loadPiece {s : State} (h : ImageLoading s) : ImageLoading s.loadPiece :=
  ⟨(loadPiece_phase s).trans h.phase, (loadPiece_resetLow s).trans h.resetHigh⟩

theorem exec_imageLoadDone {s : State} (h : ImageLoading s) : exec .imageLoadDone s = .next s.loadRest.enterRunning :=
  if_pos ⟨h.phase, h.resetHigh⟩

/-- A piece taken beforehand leaves the load's end as it is. -/
theorem exec_imageLoadDone_loadPiece {s : State} (h : ImageLoading s) :
    exec .imageLoadDone s.loadPiece = exec .imageLoadDone s := by
  rw [exec_imageLoadDone h, exec_imageLoadDone (imageLoading_loadPiece h), loadPiece_loadRest]

section Pieces

variable {s : State} {l : List ImageWord} {m : List Nat} {n : Nat}

theorem loadPiece_check (h : s.loader.work = .check) : s.loadPiece = s.loadCheck := by
  unfold State.loadPiece
  rw [h]

theorem loadPiece_control (h : s.loader.work = .control) : s.loadPiece = s.loadControl := by
  unfold State.loadPiece
  rw [h]

theorem loadPiece_requester (h : s.loader.work = .requester) : s.loadPiece = s.loadRequesters := by
  unfold State.loadPiece
  rw [h]

theorem loadPiece_preloadStart (h : s.loader.work = .preloadStart) : s.loadPiece = s.loadPreloadStart := by
  unfold State.loadPiece
  rw [h]

theorem loadPiece_freeze (h : s.loader.work = .freeze) : s.loadPiece = s.loadFreeze := by
  unfold State.loadPiece
  rw [h]

theorem loadPiece_preload (h : s.loader.work = .preload l m n) : s.loadPiece = s.loadPreloadPiece l m n := by
  unfold State.loadPiece
  rw [h]

theorem loadFromPreload_preload (h : s.loader.work = .preload l m n) : s.loadFromPreload = s.loadPreloadRest l m n := by
  unfold State.loadFromPreload
  rw [h]

/-- A whole record is a piece of its own. -/
theorem loadPiece_record {a b c : ImageWord} (h : s.loader.work = .preload (a :: b :: c :: l) m n) :
    let r := takePreload a b c ⟨s, m, n⟩
    s.loadPiece = { r.state with loader := { s.loader with work := .preload l r.installed r.skipped } } := by
  obtain ⟨_, hr⟩ := State.takePreload_shape a b c ⟨s, m, n⟩
  rw [loadPiece_preload h]
  show State.putWork _ (takePreload a b c ⟨s, m, n⟩).state = _
  rw [hr]
  rfl

/-- With no whole record left the next piece is the rest of the section. -/
theorem loadPreloadPiece_short (h : l.length < 3) (m : List Nat) (n : Nat) (s : State) :
    s.loadPreloadPiece l m n = s.loadPreloadRest l m n := by
  unfold State.loadPreloadPiece
  split
  · simp only [List.length_cons] at h
    omega
  · rfl

theorem loadPreloadStart_work (s : State) : ∃ words skipped, s.loadPreloadStart.loader.work = .preload words [] skipped := by
  unfold State.loadPreloadStart
  split
  · exact ⟨_, _, rfl⟩
  · exact ⟨_, _, rfl⟩
  · exact ⟨_, _, rfl⟩

theorem loadFromPreload_work (h : s.loader.work = .preload l m n) (hphase : s.loader.phase = .loading) :
    s.loadFromPreload.loader.work = .freeze := by
  rw [loadFromPreload_preload h, loadPreloadRest_work, hphase]
  rfl

theorem loadCheck_fails (h : imageFails s.nvm = true) : s.loadCheck = { s with
    loader := { s.loader with flags := { s.loader.flags with headerFail := true }, work := .finish }
    errors := recordError s.settings (.image .header none) s.errors } :=
  if_pos h

theorem loadCheck_passes (h : imageFails s.nvm = false) : s.loadCheck = s.putWork .control := by
  unfold State.loadCheck
  rw [h]
  rfl

/-- In a ns with nothing waiting the loader takes its next piece or none, never the one that ends the load (log 5). -/
theorem loadTick_of_loading (h : ImageLoading s) :
    let begun : State := { s with free := s.free + 1 }
    s.loadTick = begun ∨ (s.loadTick = begun.loadPiece ∧ begun.loadPiece.loader.work ≠ .finish) := by
  have hworks : s.loaderWorks = true := by
    unfold State.loaderWorks
    rw [h.phase, h.resetHigh]
    rfl
  intro begun
  unfold State.loadTick
  rw [if_pos hworks]
  dsimp only
  split
  · rename_i hadvances
    obtain ⟨_, hwork⟩ := hadvances
    exact .inr ⟨rfl, hwork⟩
  · exact .inl rfl

end Pieces

/-! ### IMAGE_LOAD_DONE from each piece on (12 R187) -/

section LoadDone

variable {s : State} {l : List ImageWord} {m : List Nat} {n : Nat} (h : ImageLoading s)

include h

/-- The end of the load, when all sections are taken. -/
theorem imageLoadDone_finish (hwork : s.loader.work = .finish) : exec .imageLoadDone s = .next s.running := by
  have hrest : s.loadRest = s := by
    simp [State.loadRest, State.loadFromCheck, State.loadFromControl, State.loadFromRequesters,
      State.loadFromPreloadStart, State.loadFromPreload, State.loadFromFreeze, hwork]
  rw [exec_imageLoadDone h, hrest, enterRunning_of_loading h.phase]

theorem imageLoadDone_freeze (hwork : s.loader.work = .freeze) : exec .imageLoadDone s = .next s.loadFreeze.running := by
  have hnext := imageLoading_loadPiece h
  rw [← exec_imageLoadDone_loadPiece h]
  rw [loadPiece_freeze hwork] at hnext ⊢
  exact imageLoadDone_finish hnext rfl

theorem imageLoadDone_preload (hwork : s.loader.work = .preload l m n) :
    exec .imageLoadDone s = .next s.loadFromPreload.loadFreeze.running := by
  have hfreeze := loadFromPreload_work hwork h.phase
  have hrest : s.loadRest = s.loadFromPreload.loadFromFreeze := by
    simp [State.loadRest, State.loadFromCheck, State.loadFromControl, State.loadFromRequesters,
      State.loadFromPreloadStart, hwork]
  have hended : s.loadFromPreload.loadFreeze.loader.phase = .loading := by
    rw [loadFreeze_phase, loadFromPreload_phase, h.phase]
  rw [exec_imageLoadDone h, hrest, State.loadFromFreeze, if_pos hfreeze, enterRunning_of_loading hended]

theorem imageLoadDone_preloadStart (hwork : s.loader.work = .preloadStart) :
    exec .imageLoadDone s = .next s.loadPreloadStart.loadFromPreload.loadFreeze.running := by
  obtain ⟨_, _, hpreload⟩ := loadPreloadStart_work s
  have hnext := imageLoading_loadPiece h
  rw [← exec_imageLoadDone_loadPiece h]
  rw [loadPiece_preloadStart hwork] at hnext ⊢
  exact imageLoadDone_preload hnext hpreload

theorem imageLoadDone_requester (hwork : s.loader.work = .requester) :
    exec .imageLoadDone s = .next s.loadRequesters.loadPreloadStart.loadFromPreload.loadFreeze.running := by
  have hnext := imageLoading_loadPiece h
  rw [← exec_imageLoadDone_loadPiece h]
  rw [loadPiece_requester hwork] at hnext ⊢
  exact imageLoadDone_preloadStart hnext rfl

theorem imageLoadDone_control (hwork : s.loader.work = .control) :
    exec .imageLoadDone s = .next s.loadControl.loadRequesters.loadPreloadStart.loadFromPreload.loadFreeze.running := by
  have hnext := imageLoading_loadPiece h
  rw [← exec_imageLoadDone_loadPiece h]
  rw [loadPiece_control hwork] at hnext ⊢
  exact imageLoadDone_requester hnext rfl

theorem imageLoadDone_passes (hwork : s.loader.work = .check) (himage : imageFails s.nvm = false) :
    exec .imageLoadDone s = .next
      (s.putWork .control).loadControl.loadRequesters.loadPreloadStart.loadFromPreload.loadFreeze.running := by
  have hnext := imageLoading_loadPiece h
  rw [← exec_imageLoadDone_loadPiece h]
  rw [loadPiece_check hwork, loadCheck_passes himage] at hnext ⊢
  exact imageLoadDone_control hnext rfl

theorem imageLoadDone_fails (hwork : s.loader.work = .check) (himage : imageFails s.nvm = true) :
    exec .imageLoadDone s = .next s.loadCheck.running := by
  have hnext := imageLoading_loadPiece h
  rw [← exec_imageLoadDone_loadPiece h]
  rw [loadPiece_check hwork] at hnext ⊢
  refine imageLoadDone_finish hnext ?_
  rw [loadCheck_fails himage]

end LoadDone

/-! ### What the load leaves: the phase until its end, and the events (10 R170) -/

/-- Phase and events stand. -/
structure KeepsBoot (s t : State) : Prop where
  phase : t.loader.phase = s.loader.phase
  events : t.errors.events = s.errors.events

theorem KeepsBoot.refl (s : State) : KeepsBoot s s := ⟨rfl, rfl⟩

theorem KeepsBoot.trans {s t u : State} (hst : KeepsBoot s t) (htu : KeepsBoot t u) : KeepsBoot s u :=
  ⟨htu.phase.trans hst.phase, htu.events.trans hst.events⟩

/-- Errors are recorded and no event is raised. -/
theorem keepsBoot_reportSkipped (x : ImageItem) (n : Nat) (f : ImageFlags → ImageFlags) (s : State) :
    KeepsBoot s (s.reportSkipped x n f) := by
  refine ⟨reportSkipped_phase x n f s, ?_⟩
  unfold State.reportSkipped
  split
  · rfl
  · exact recordError_events _ _ _

theorem keepsBoot_putWork (w : LoadWork) (s : State) : KeepsBoot s (s.putWork w) := ⟨rfl, rfl⟩

theorem keepsBoot_loadCheck (s : State) : KeepsBoot s s.loadCheck := by
  unfold State.loadCheck
  split
  · exact ⟨rfl, recordError_events _ _ _⟩
  · exact keepsBoot_putWork _ s

theorem keepsBoot_applyControl (c : ControlValues) (s : State) : KeepsBoot s (s.applyControl c) := by
  have hset : KeepsBoot s (s.setControl c) := ⟨rfl, rfl⟩
  rw [applyControl_eq]
  exact hset.trans (keepsBoot_reportSkipped _ _ _ _)

theorem keepsBoot_loadControl (s : State) : KeepsBoot s s.loadControl := by
  unfold State.loadControl
  split
  · exact (keepsBoot_applyControl _ s).trans (keepsBoot_putWork _ _)
  · exact (keepsBoot_applyControl _ s).trans (keepsBoot_putWork _ _)
  · exact (keepsBoot_applyControl _ s).trans (keepsBoot_putWork _ _)

theorem keepsBoot_applyRequesters (v : RequesterValues) (s : State) : KeepsBoot s (s.applyRequesters v) := by
  have hset : KeepsBoot s (s.setRequesters v) := ⟨rfl, rfl⟩
  rw [applyRequesters_eq]
  exact hset.trans (keepsBoot_reportSkipped _ _ _ _)

theorem keepsBoot_loadRequesters (s : State) : KeepsBoot s s.loadRequesters := by
  unfold State.loadRequesters
  split
  · exact (keepsBoot_applyRequesters _ s).trans (keepsBoot_putWork _ _)
  · exact (keepsBoot_applyRequesters _ s).trans (keepsBoot_putWork _ _)
  · exact (keepsBoot_applyRequesters _ s).trans (keepsBoot_putWork _ _)

theorem keepsBoot_loadPreloadStart (s : State) : KeepsBoot s s.loadPreloadStart := by
  obtain ⟨_, h⟩ := State.loadPreloadStart_shape s
  exact ⟨loadPreloadStart_phase s, by rw [h]⟩

theorem keepsBoot_loadFromPreload (s : State) : KeepsBoot s s.loadFromPreload := by
  unfold State.loadFromPreload
  split
  · rename_i words installed skipped _
    obtain ⟨_, h⟩ := State.preloadRecords_shape words ⟨s, installed, skipped⟩
    have hrecords : KeepsBoot s (preloadRecords words ⟨s, installed, skipped⟩).state := ⟨by rw [h], by rw [h]⟩
    exact (hrecords.trans (keepsBoot_reportSkipped _ _ _ _)).trans (keepsBoot_putWork _ _)
  · exact .refl s

theorem keepsBoot_skipFreeze (s : State) : KeepsBoot s s.skipFreeze := by
  rw [skipFreeze_eq]
  exact ⟨rfl, recordError_events _ _ _⟩

theorem keepsBoot_loadFreeze (s : State) : KeepsBoot s s.loadFreeze := by
  have hskip := (keepsBoot_skipFreeze s).trans (keepsBoot_putWork .finish _)
  unfold State.loadFreeze
  split
  · exact keepsBoot_putWork .finish s
  · exact hskip
  · split
    · split
      · exact ⟨rfl, rfl⟩
      · exact hskip
    · exact hskip

theorem keepsBoot_loadRest (s : State) : KeepsBoot s s.loadRest := by
  have stage {c : Prop} [Decidable c] {u v w : State} (hu : KeepsBoot u v) (hv : KeepsBoot v w) :
      KeepsBoot u (if c then w else v) := by
    split
    · exact hu.trans hv
    · exact hu
  have hcheck : KeepsBoot s s.loadFromCheck := stage (.refl s) (keepsBoot_loadCheck s)
  have hcontrol : KeepsBoot s s.loadFromCheck.loadFromControl := stage hcheck (keepsBoot_loadControl _)
  have hrequesters : KeepsBoot s s.loadFromCheck.loadFromControl.loadFromRequesters :=
    stage hcontrol (keepsBoot_loadRequesters _)
  have hstart : KeepsBoot s s.loadFromCheck.loadFromControl.loadFromRequesters.loadFromPreloadStart :=
    stage hrequesters (keepsBoot_loadPreloadStart _)
  exact stage (hstart.trans (keepsBoot_loadFromPreload _)) (keepsBoot_loadFreeze _)

/-! ### The two ends (12 R187, R189) -/

/-- Settles O31: the image's test and the places of its sections, then the load's end from each piece on. -/
theorem imageLoadEnds : Obligations.ImageLoadEnds := by
  refine ⟨fun m => ?image, fun s hphase hreset => ?load⟩
  case image =>
    exact ⟨fun k hk => nvmWord_bytes m hk, fun start n h => nvmWords_words m h, imageFails_iff m,
      fun h => ⟨sectionAt_absent, sectionAt_misplaced, sectionAt_placed⟩⟩
  case load =>
    have h : ImageLoading s := ⟨hphase, hreset⟩
    refine ⟨fun hwork himage => ?fails, imageLoadDone_passes h, imageLoadDone_control h, imageLoadDone_requester h,
      imageLoadDone_preloadStart h, fun _ _ _ => imageLoadDone_preload h, imageLoadDone_freeze h,
      imageLoadDone_finish h, exec_imageLoadDone_loadPiece h, loadTick_of_loading h,
      fun hwork himage => (loadPiece_check hwork).trans (loadCheck_passes himage),
      fun hwork => ⟨loadPiece_control hwork, by rw [loadPiece_control hwork]; rfl⟩,
      fun hwork => ⟨loadPiece_requester hwork, by rw [loadPiece_requester hwork]; rfl⟩,
      fun hwork => ⟨loadPiece_preloadStart hwork, by rw [loadPiece_preloadStart hwork]; exact loadPreloadStart_work s⟩,
      fun _ _ _ _ _ _ => loadPiece_record, fun words installed skipped hwork hshort => ?short,
      fun hwork => ⟨loadPiece_freeze hwork, by rw [loadPiece_freeze hwork]; rfl⟩, ?ended⟩
    case fails =>
      rw [imageLoadDone_fails h hwork himage, loadCheck_fails himage]
      rfl
    case short =>
      have hpiece : s.loadPiece = s.loadFromPreload := by
        rw [loadPiece_preload hwork, loadPreloadPiece_short hshort, loadFromPreload_preload hwork]
      exact ⟨hpiece, by rw [hpiece]; exact loadFromPreload_work hwork hphase⟩
    case ended =>
      obtain ⟨hstill, hevents⟩ := keepsBoot_loadRest s
      have hdone : exec .imageLoadDone s = .next s.loadRest.running := by
        rw [exec_imageLoadDone h, enterRunning_of_loading (hstill.trans hphase)]
      exact ⟨_, hdone, rfl, rfl, congrArg (· ||| eventBit .bootDone) hevents, rfl, rfl, State.loadRest_claims s,
        State.loadRest_queue s, State.loadRest_port s, State.loadRest_batch s, State.loadRest_sweep s,
        State.loadRest_drain s, State.loadRest_mgmt s⟩

/-- In RELOADING the section's end is the load's end, and the settings stand. -/
theorem exec_preloadReloadDone {s : State} {words : List ImageWord} {installed : List Nat} {skipped : Nat}
    (hphase : s.loader.phase = .reloading) (hwork : s.loader.work = .preload words installed skipped) :
    let r := preloadRecords words ⟨s, installed, skipped⟩
    let ended := r.state.reportSkipped .preload r.skipped (fun f => { f with preloadSkipped := true })
    exec .preloadReloadDone s = .next { ended with
      loader := { ended.loader with phase := .running, work := .nothing }
      errors := raiseEvent .bootDone ended.errors } := by
  intro r ended
  have hended : ended.loader.phase ≠ .loading := by
    have hsame : ended.loader.phase = s.loader.phase := by
      rw [reportSkipped_phase, preloadRecords_loader]
    rw [hsame, hphase]
    exact Phase.noConfusion
  have hdone : exec .preloadReloadDone s = .next s.loadFromPreload.enterRunning := if_pos hphase
  have hsection : s.loadFromPreload.loader.phase ≠ .loading := by
    rw [loadFromPreload_phase, hphase]
    exact Phase.noConfusion
  rw [hdone, State.enterRunning, if_neg hsection, loadFromPreload_preload hwork]
  rfl

/-- A preload record writes at most its entry. -/
theorem takePreload_entries (a b c : ImageWord) (r : PreloadRun) : ∃ entries,
    (takePreload a b c r).state = { r.state with store := { r.state.store with entries := entries } } := by
  unfold takePreload
  split
  · split
    · exact ⟨_, rfl⟩
    · exact ⟨_, rfl⟩
  · exact ⟨_, rfl⟩

/-- The records write entries and nothing else. -/
theorem preloadRecords_entries (l : List ImageWord) (r : PreloadRun) : ∃ entries,
    (preloadRecords l r).state = { r.state with store := { r.state.store with entries := entries } } := by
  fun_induction preloadRecords l r with
  | case1 a b c rest r ih =>
    obtain ⟨_, hrest⟩ := ih
    obtain ⟨_, hrecord⟩ := takePreload_entries a b c r
    rw [hrest, hrecord]
    exact ⟨_, rfl⟩
  | case2 => exact ⟨_, rfl⟩
  | case3 => exact ⟨_, rfl⟩

/-- Settles O33: what is left of the captured section, its report, and the return to RUNNING. -/
theorem preloadReloadEnds : Obligations.PreloadReloadEnds := by
  intro words installed skipped s hphase hwork r running
  obtain ⟨_, hr⟩ := preloadRecords_entries words ⟨s, installed, skipped⟩
  have hdone := exec_preloadReloadDone hphase hwork
  refine ⟨fun h => ?_, fun h => ?_, ?_⟩
  · rw [hdone, h, reportSkipped_none, hr]
    rfl
  · rw [hdone, reportSkipped_some _ h, hr]
  · show (preloadRecords words ⟨s, installed, skipped⟩).state = _
    rw [hr]

end Sys2Proof.Machine
end

section
/-! SUPPORT. The four ways to a full reset, the values it begins with, and the invariants right after power-on
(12 R187). -/

namespace Sys2Proof.Machine

/-! ### The Commit Result after a reset (06 R122) -/

theorem abandonedResult_committing {x : Staging} {g : Group} {n k : Nat} {ops : List BatchOp}
    {copies : List ValidatedCopy} {t : Tally} (h : x = .committing g n ops copies k t) :
    abandonedResult x = .abandoned g ops.length := by
  rw [h]
  rfl

theorem abandonedResult_of_not_committing {x : Staging} (h : committing x = false) : abandonedResult x = .none := by
  cases x with
  | idle => rfl
  | loading g n ops => rfl
  | loaded g n ops => rfl
  | committing g n ops copies k t => contradiction

/-! ### The two ways a running part is reset (12 R187, 11 R181) -/

/-- The RESET line goes low. -/
theorem exec_resetAssert {s : State} (h : s.resetLow = false) :
    exec .resetAssert s = .next (State.fullReset (abandonedResult s.batch.staging)
      (cutTransaction s.mgmt.transaction) { s with resetLow := true, loads := s.loads + 1 }) := by
  show (if s.resetLow = true then _ else _) = _
  rw [h]
  rfl

theorem exec_fullReset {s : State} (h : s.writesAt 0x5C#7 = true) :
    exec .fullReset s = .next (State.fullReset (abandonedResult s.batch.staging)
      (cutTransaction s.mgmt.transaction) { s with loads := s.loads + 1 }) :=
  if_pos h

/-- Settles O34: POWER_ON, the RESET line and FULL_RESET, in COMMITTING and elsewhere, and the line's release. -/
theorem fullResets : Obligations.FullResets := by
  intro s from' cut
  refine ⟨fun b => rfl, fun g n ops copies k t hcommitting => ?_, fun hnone => ?_, rfl⟩
  · have hresult := abandonedResult_committing hcommitting
    exact ⟨fun hhigh => by rw [exec_resetAssert hhigh, hresult]; rfl,
      fun hwrites => by rw [exec_fullReset hwrites, hresult]; rfl⟩
  · have hresult := abandonedResult_of_not_committing hnone
    exact ⟨fun hhigh => by rw [exec_resetAssert hhigh, hresult]; rfl,
      fun hwrites => by rw [exec_fullReset hwrites, hresult]; rfl⟩

/-! ### The values right after power-on (12 R187) -/

theorem reset_requester (r : ReqId) : State.reset.requester r = Requester.reset := Vector.getElem_replicate r.isLt

theorem reset_domainRecord (d : Domain) : State.reset.domainRecord d = DomainRecord.reset :=
  Vector.getElem_replicate d.isLt

theorem reset_claim (t : Tag) : State.reset.claims[t] = .free := Vector.getElem_replicate t.isLt

theorem reset_slot (k : SlotIx) : State.reset.queue[k] = .empty := Vector.getElem_replicate k.isLt

/-- Settles O4: block by block, the values at the start of a full reset. -/
theorem resetValues : Obligations.ResetValues :=
  ⟨entry_reset, rfl, rfl, rfl, reset_requester, fun r => Vector.getElem_replicate r.isLt, reset_domainRecord,
    reset_claim, reset_slot, rfl, rfl, rfl, rfl, rfl, rfl, rfl, rfl, rfl, rfl, rfl, rfl,
    rfl, rfl, rfl, rfl, rfl, rfl, rfl, rfl, rfl,
    fun k => Vector.getElem_replicate k.isLt, fun k => Vector.getElem_replicate k.isLt⟩

/-! ### The invariants right after power-on -/

/-- Every domain is OPEN and the engine IDLE. -/
theorem closingLaw_reset : ClosingLaw State.reset := by
  intro d
  rw [reset_domainRecord]
  refine iff_of_false nofun ?_
  rintro ⟨w, hw, _⟩
  contradiction

theorem walkLaw_reset : WalkLaw State.reset := ⟨nofun, fun _ => nofun⟩

theorem stagingLaw_reset : StagingLaw State.reset := ⟨trivial, nofun⟩

/-- No slot is occupied, so none carries a tag or holds a request. -/
theorem carriedLaw_reset : CarriedLaw State.reset := by
  refine ⟨fun k q i a d t h => ?_, fun j k t h => ?_, fun k q h => ?_⟩
  · rw [reset_slot] at h
    contradiction
  · rw [reset_slot] at h
    contradiction
  · rw [reset_slot] at h
    contradiction

/-- No deadline stands. -/
theorem deadlineLaw_reset : DeadlineLaw State.reset := by
  refine ⟨fun r d h => ?_, fun k d h => ?_, nofun, Nat.zero_le _⟩
  · rw [reset_requester] at h
    contradiction
  · rw [reset_slot] at h
    contradiction

/-- No entry is REVOKING and no item stands. -/
theorem drainLaw_reset : DrainLaw State.reset := by
  refine (drainLaw_iff _).2 ⟨canonical_reset, copiesLaw_of_unvalidated nofun, ⟨fun i => ?_, List.nodup_nil, Nat.zero_le _⟩,
    fun _ => ⟨rfl, rfl, rfl⟩⟩
  rw [entry_reset]
  exact iff_of_false nofun nofun

/-- Settles O60: law by law; those of locks, claim counts and DISABLED requesters hold after every full reset. -/
theorem invariantsHoldAtReset : Obligations.InvariantsHoldAtReset :=
  ⟨canonical_reset, lockLaw_fullReset .none .none State.reset, rangeFrozen_reset, closingLaw_reset, walkLaw_reset,
    stagingLaw_reset, carriedLaw_reset, countLaw_fullReset State.reset .none .none,
    disabledLaw_fullReset State.reset .none .none, deadlineLaw_reset, drainLaw_reset⟩

end Sys2Proof.Machine
end

section
/-! SUPPORT. The queue of commands, the model's time and the board through the shared operations and the engines' work
(log 1, log 2). -/

namespace Sys2Proof.Machine

/-! ### What stands outside the part -/

/-- The queue of commands, the time and the board stand. -/
structure KeepsOutside (s t : State) : Prop where
  pending : t.pending = s.pending := by rfl
  now : t.now = s.now := by rfl
  board : t.board = s.board := by rfl

theorem KeepsOutside.refl (s : State) : KeepsOutside s s := {}

theorem KeepsOutside.trans {s t u : State} (hst : KeepsOutside s t) (htu : KeepsOutside t u) : KeepsOutside s u where
  pending := htu.pending.trans hst.pending
  now := htu.now.trans hst.now
  board := htu.board.trans hst.board

/-- The end of an event touches the part alone. -/
theorem KeepsOutside.settled {s t : State} (h : KeepsOutside s t) (u : State) : KeepsOutside s (settle u t) := by
  obtain ⟨_, _, _, _, _, _, hsettle⟩ := State.settle_of_shape u t
  rw [hsettle]
  exact ⟨h.pending, h.now, h.board⟩

/-! ### Entries, requesters, slots and claims (01, 02, 04, 05, 07) -/

theorem keepsOutside_readEntry (f : Finder) (i : EntryIx) (s : State) : KeepsOutside s (s.readEntry f i) :=
  ⟨State.readEntry_pending f i s, State.readEntry_now f i s, State.readEntry_board f i s⟩

theorem keepsOutside_fault (r : ReqId) (k : FaultKind) (s : State) : KeepsOutside s (s.fault r k) :=
  ⟨State.fault_pending r k s, State.fault_now r k s, State.fault_board r k s⟩

theorem keepsOutside_freeClaim (t : Tag) (s : State) : KeepsOutside s (s.freeClaim t) :=
  ⟨State.freeClaim_pending t s, State.freeClaim_now t s, State.freeClaim_board t s⟩

theorem keepsOutside_dropSlot (k : SlotIx) (s : State) : KeepsOutside s (s.dropSlot k) := by
  obtain ⟨_, _, _, _, _, _, h⟩ := State.dropSlot_shape k s
  rw [h]
  exact {}

theorem keepsOutside_endDrain (i : EntryIx) (s : State) : KeepsOutside s (s.endDrain i) :=
  ⟨State.endDrain_pending i s, State.endDrain_now i s, State.endDrain_board i s⟩

theorem keepsOutside_report (e : ErrorRecord) (s : State) : KeepsOutside s (s.report e) := {}

theorem keepsOutside_raise (k : EventKind) (s : State) : KeepsOutside s (s.raise k) := {}

theorem keepsOutside_acceptClearing (r : ReqId) (c : Clearing) (s : State) : KeepsOutside s (s.acceptClearing r c) :=
  ⟨State.acceptClearing_pending r c s, State.acceptClearing_now r c s, State.acceptClearing_board r c s⟩

/-! ### The Resolve Port (03, 04 R71) -/

theorem keepsOutside_deliver (r : ReqId) (a : Response) (s : State) : KeepsOutside s (s.deliver r a) :=
  ⟨State.deliver_pending r a s, State.deliver_now r a s, State.deliver_board r a s⟩

theorem keepsOutside_resolveRequest (q : Request) (s : State) : KeepsOutside s (s.resolveRequest q).1 := by
  obtain ⟨_, _, _, _, _, _, h⟩ := State.resolveRequest_shape q s
  rw [h]
  exact {}

theorem keepsOutside_releaseRequest (r : ReqId) (t : Tag) (s : State) : KeepsOutside s (s.releaseRequest r t).1 := by
  obtain ⟨_, _, _, _, _, _, h⟩ := State.releaseRequest_shape r t s
  rw [h]
  exact {}

theorem keepsOutside_slotResetRequest (r : ReqId) (s : State) : KeepsOutside s (s.slotResetRequest r) := by
  obtain ⟨_, _, _, _, _, _, _, _, h⟩ := State.slotResetRequest_shape r s
  rw [h]
  exact {}

/-! ### The commit (06 R112 to R121) -/

theorem keepsOutside_putStaging (x : Staging) (s : State) : KeepsOutside s (s.putStaging x) := {}

theorem keepsOutside_applyOp (op : BatchOp) (c : ValidatedCopy) (s : State) : KeepsOutside s (s.applyOp op c).1 :=
  ⟨State.applyOp_pending op c s, State.applyOp_now op c s, State.applyOp_board op c s⟩

theorem keepsOutside_closeCommit (r : CommitResult) (s : State) : KeepsOutside s (s.closeCommit r) :=
  ⟨State.closeCommit_pending r s, State.closeCommit_now r s, State.closeCommit_board r s⟩

theorem keepsOutside_evaluateWaiting (s : State) : KeepsOutside s s.evaluateWaiting :=
  ⟨State.evaluateWaiting_pending s, State.evaluateWaiting_now s, State.evaluateWaiting_board s⟩

theorem keepsOutside_rejectCommit (g : Group) (n p : Nat) (i : EntryIx) (x : RejectReason) (s : State) :
    KeepsOutside s (s.rejectCommit g n p i x) := by
  obtain ⟨_, _, _, _, _, _, _, h⟩ := State.rejectCommit_shape g n p i x s
  rw [h]
  exact {}

/-! ### Walks (09 R150 to R161) -/

theorem keepsOutside_startWalk (k : WalkKind) (s : State) : KeepsOutside s (s.startWalk k).1 := by
  unfold State.startWalk
  split
  · exact .refl s
  · cases k with
    | scrub => exact {}
    | domainSweep d => exact {}

theorem keepsOutside_endWalk (w : Walk) (x : WalkEnd) (s : State) : KeepsOutside s (s.endWalk w x) :=
  ⟨State.endWalk_pending w x s, State.endWalk_now w x s, State.endWalk_board w x s⟩

theorem keepsOutside_sweepStepOf (w : Walk) (d : Domain) (s : State) : KeepsOutside s (s.sweepStepOf w d) := by
  obtain ⟨_, _, _, _, _, _, h⟩ := State.sweepStepOf_shape w d s
  rw [h]
  exact {}

theorem keepsOutside_scrubStepOf (w : Walk) (s : State) : KeepsOutside s (s.scrubStepOf w) := by
  obtain ⟨_, _, _, _, _, h⟩ := State.scrubStepOf_shape w s
  rw [h]
  exact {}

theorem keepsOutside_retake (s : State) : KeepsOutside s s.retake :=
  ⟨State.retake_pending s, State.retake_now s, State.retake_board s⟩

/-! ### The load of the image and the resets (12 R183 to R189) -/

theorem keepsOutside_loadRest (s : State) : KeepsOutside s s.loadRest :=
  ⟨State.loadRest_pending s, State.loadRest_now s, State.loadRest_board s⟩

theorem keepsOutside_loadFromPreload (s : State) : KeepsOutside s s.loadFromPreload := by
  obtain ⟨_, _, _, h⟩ := State.loadFromPreload_shape s
  rw [h]
  exact {}

theorem keepsOutside_enterRunning (s : State) : KeepsOutside s s.enterRunning :=
  ⟨State.enterRunning_pending s, State.enterRunning_now s, State.enterRunning_board s⟩

/-- A full reset leaves what is outside the part. -/
theorem keepsOutside_fullReset (r : CommitResult) (x : Transaction) (s : State) : KeepsOutside s (s.fullReset r x) := {}

theorem keepsOutside_fullResetCommand (s : State) : KeepsOutside s s.fullResetCommand := {}

theorem keepsOutside_acceptTableReset (s : State) : KeepsOutside s s.acceptTableReset := by
  rw [acceptTableReset_eq]
  exact {}

end Sys2Proof.Machine
end

section
/-! SUPPORT. The queue of commands, the model's time and the board through the host commands (06 R103 to R110, 08 R141 to
R144, 09 R150 to R160, 11 R181). -/

namespace Sys2Proof.Machine

section Bodies

variable (s : State)

/-! ### The batch commands (06 R103 to R110) -/

theorem keepsOutside_abortBatch (x : AbortReason) : KeepsOutside s (s.abortBatch x) := {}

theorem keepsOutside_openTests : KeepsOutside s s.openTests.1 := by
  unfold State.openTests
  split
  · exact .refl s
  · split
    · exact .refl s
    · dsimp only
      split
      · exact .refl s
      · split
        · exact keepsOutside_abortBatch s _
        · exact {}

theorem keepsOutside_loadTests : KeepsOutside s s.loadTests.1 := by
  unfold State.loadTests
  split
  · exact .refl s
  · exact .refl s
  · exact keepsOutside_abortBatch s _
  · split
    · exact .refl s
    · split
      · exact keepsOutside_abortBatch s _
      · split
        · exact keepsOutside_abortBatch s _
        · exact {}

theorem keepsOutside_discardTests : KeepsOutside s s.discardTests.1 := by
  unfold State.discardTests
  split
  · exact .refl s
  · exact {}

theorem keepsOutside_commitTests : KeepsOutside s s.commitTests.1 := by
  unfold State.commitTests
  split
  · exact .refl s
  · exact keepsOutside_abortBatch s _
  · exact .refl s
  · split
    · exact {}
    · split
      · exact .refl s
      · exact {}

/-! ### The freeze commands (08 R141 to R144) -/

theorem keepsOutside_freezeGroupTests : KeepsOutside s s.freezeGroupTests.1 := by
  unfold State.freezeGroupTests
  split
  · exact .refl s
  · split
    · exact .refl s
    · exact {}

theorem keepsOutside_thawGroupTests : KeepsOutside s s.thawGroupTests.1 := by
  unfold State.thawGroupTests
  split
  · exact .refl s
  · split
    · exact .refl s
    · exact {}

theorem keepsOutside_freezeAllTests : KeepsOutside s s.freezeAllTests.1 := by
  unfold State.freezeAllTests
  split
  · exact .refl s
  · exact {}

theorem keepsOutside_freezeRangeTests : KeepsOutside s s.freezeRangeTests.1 := by
  unfold State.freezeRangeTests
  split
  · exact .refl s
  · split
    · exact .refl s
    · exact {}

/-! ### The walk commands (09 R150 to R160) -/

theorem keepsOutside_domainSweepTests : KeepsOutside s s.domainSweepTests.1 := by
  unfold State.domainSweepTests
  split
  · exact .refl s
  · exact keepsOutside_startWalk _ s

theorem keepsOutside_suspendTests : KeepsOutside s s.suspendTests.1 := by
  unfold State.suspendTests
  split
  · exact .refl s
  · split
    · exact {}
    · exact {}
    · exact .refl s
    · exact .refl s

theorem keepsOutside_resumeTests : KeepsOutside s s.resumeTests.1 := by
  unfold State.resumeTests
  split
  · exact .refl s
  · split
    · exact .refl s
    · split
      · exact .refl s
      · exact {}

theorem keepsOutside_cancelTests : KeepsOutside s s.cancelTests.1 := by
  unfold State.cancelTests
  split
  · exact .refl s
  · split
    · exact {}
    · exact keepsOutside_endWalk _ _ s
    · exact keepsOutside_endWalk _ _ s
    · exact keepsOutside_endWalk _ _ s

/-! ### FORCE_DRAIN, the requester commands and READ_ENTRY (07 R133, 02 R26, R34, R36, 11 R182) -/

theorem keepsOutside_forceDrainTests : KeepsOutside s s.forceDrainTests.1 := by
  unfold State.forceDrainTests
  split
  · exact .refl s
  · split
    · exact ((keepsOutside_endDrain _ s).trans (keepsOutside_raise _ _)).settled s
    · exact .refl s

theorem keepsOutside_domainSetTests : KeepsOutside s s.domainSetTests.1 := by
  unfold State.domainSetTests
  split
  · exact .refl s
  · split
    · exact .refl s
    · exact {}

theorem keepsOutside_requesterSetTests : KeepsOutside s s.requesterSetTests.1 := by
  unfold State.requesterSetTests
  split
  · exact .refl s
  · rename_i o _
    split
    · exact .refl s
    · cases o.standing with
      | disabled =>
        dsimp only
        exact (keepsOutside_acceptClearing o.requester (.toDisabled o.domain o.limit) s).settled s
      | enabled => exact {}
      | quarantined => exact {}

theorem keepsOutside_requesterResetTests : KeepsOutside s s.requesterResetTests.1 := by
  unfold State.requesterResetTests
  split
  · exact .refl s
  · rename_i r _
    split
    · exact .refl s
    · dsimp only
      exact (keepsOutside_acceptClearing r .toDefaults s).settled s

variable {s} in
theorem keepsOutside_readEntryAnswer {u : State} {bytes : List Byte} (h : s.readEntryAnswer = some (u, bytes)) :
    KeepsOutside s u := by
  unfold State.readEntryAnswer at h
  split at h
  · contradiction
  · cases h
    exact (keepsOutside_readEntry _ _ s).settled s

end Bodies

/-! ### The gates of the commands (06 R107, 11 R181, R182) -/

/-- The effect of a command touches the part alone. -/
def Inside (f : State → State) : Prop := ∀ s, KeepsOutside s (f s)

theorem keepsOutside_setStatus (e : CommandEnd) (s : State) : KeepsOutside s (s.setStatus e) := {}

theorem keepsOutside_byteTaken (s : State) : KeepsOutside s s.byteTaken := {}

theorem keepsOutside_interrupt (s : State) : KeepsOutside s s.interrupt :=
  ⟨State.interrupt_pending s, State.interrupt_now s, State.interrupt_board s⟩

theorem inside_interrupting {body : State → State × CommandEnd} (hbody : ∀ s, KeepsOutside s (body s).1) :
    Inside (State.interrupting body) := by
  intro s
  unfold State.interrupting
  split
  · exact keepsOutside_setStatus _ s
  · exact ((keepsOutside_interrupt s).trans (hbody _)).trans (keepsOutside_setStatus _ _)

theorem inside_batchCommand {body : State → State × CommandEnd} (hbody : ∀ s, KeepsOutside s (body s).1) :
    Inside (State.batchCommand body) := by
  intro s
  unfold State.batchCommand
  split
  · exact keepsOutside_setStatus _ s
  · exact (hbody s).trans (keepsOutside_setStatus _ _)

theorem inside_query {answer : State → Option (State × List Byte)}
    (hanswer : ∀ {s u : State} {bytes : List Byte}, answer s = some (u, bytes) → KeepsOutside s u) :
    Inside (State.query answer) := by
  intro s
  unfold State.query
  split
  · rename_i u bytes hu
    exact (hanswer hu).trans {}
  · exact keepsOutside_setStatus _ s

/-- A query that only looks. -/
theorem inside_query_map {α : Type} (index : State → Option α) (bytes : State → α → List Byte) :
    Inside (State.query (fun s => (index s).map (fun k => (s, bytes s k)))) := by
  refine inside_query fun {s u _} h => ?_
  obtain ⟨k, _, hk⟩ := Option.map_eq_some_iff.1 h
  cases hk
  exact .refl s

theorem inside_query_some (bytes : State → List Byte) : Inside (State.query (fun s => some (s, bytes s))) := by
  refine inside_query fun {s u _} h => ?_
  cases h
  exact .refl s

/-! ### The command table (11 R181) -/

theorem inside_of_low : ∀ f ∈ lowEffects, Inside f := by
  simp only [lowEffects, List.forall_mem_cons]
  exact ⟨inside_interrupting keepsOutside_openTests, inside_batchCommand keepsOutside_loadTests,
    inside_batchCommand keepsOutside_commitTests, inside_batchCommand keepsOutside_discardTests,
    inside_interrupting keepsOutside_freezeGroupTests, inside_interrupting keepsOutside_thawGroupTests,
    inside_interrupting keepsOutside_freezeAllTests, inside_interrupting keepsOutside_freezeRangeTests,
    inside_interrupting keepsOutside_domainSweepTests, inside_interrupting (keepsOutside_startWalk .scrub),
    inside_interrupting keepsOutside_suspendTests, inside_interrupting keepsOutside_resumeTests,
    inside_interrupting keepsOutside_cancelTests, nofun⟩

theorem inside_of_high : ∀ f ∈ highEffects, Inside f := by
  simp only [highEffects, List.forall_mem_cons]
  exact ⟨inside_interrupting keepsOutside_forceDrainTests, inside_interrupting keepsOutside_domainSetTests,
    inside_interrupting keepsOutside_requesterSetTests, inside_interrupting keepsOutside_requesterResetTests,
    inside_interrupting fun _ => {}, inside_interrupting keepsOutside_acceptTableReset,
    inside_query keepsOutside_readEntryAnswer, inside_query_map _ _, inside_query_map _ _, inside_query_map _ _,
    inside_query_map _ _, inside_query_some _, inside_query_some _, nofun⟩

theorem inside_undefinedCommand : Inside State.undefinedCommand := fun _ => {}

theorem inside_dispatch (code : Byte) : Inside (State.dispatch code) := by
  intro s
  rcases dispatch_cases code s with h | ⟨f, hf, h⟩
  · rw [h]
    exact keepsOutside_fullResetCommand s
  · have heffect : Inside f := by
      rcases hf with hlow | hhigh | rfl
      · exact inside_of_low f hlow
      · exact inside_of_high f hhigh
      · exact inside_undefinedCommand
    rw [h]
    exact (heffect s).trans (keepsOutside_byteTaken _)

end Sys2Proof.Machine
end

section
/-! SUPPORT. Every row of the command table answers a next state, with queue, time and, POWER_ON apart, board as they were
(10, log 1); and what a step makes of the command at the front of the queue. -/

namespace Sys2Proof.Machine

/-- The outcome is a next state, with queue, time and board as they were. -/
def CompletesInside (s : State) (o : Host.Outcome State Fault Refusal) : Prop := ∃ t, o = .next t ∧ KeepsOutside s t

section Rows

variable {s : State}

theorem completes_next {t : State} (h : KeepsOutside s t) : CompletesInside s (.next t) := ⟨t, rfl, h⟩

theorem completes_same : CompletesInside s (.next s) := completes_next (.refl s)

theorem completes_ite {c : Prop} [Decidable c] {a b : Host.Outcome State Fault Refusal} (ha : CompletesInside s a)
    (hb : CompletesInside s b) : CompletesInside s (if c then a else b) := by
  split
  · exact ha
  · exact hb

/-- A row that does something where its event arises, and nothing elsewhere (log 1). -/
theorem completes_ite_same {c : Prop} [Decidable c] {t : State} (h : KeepsOutside s t) :
    CompletesInside s (if c then .next t else .next s) :=
  completes_ite (completes_next h) completes_same

theorem completes_atCommandRegister {f : State → State} (hf : Inside f) : CompletesInside s (atCommandRegister f s) :=
  completes_ite_same ((hf s).trans (keepsOutside_byteTaken _))

/-! ### The Resolve Port (03, 04 R71) -/

theorem completes_execResolve (r : ReqId) (a : Address) (d : Dir) (c : Bool) :
    CompletesInside s (execResolve r a d c s) :=
  completes_ite_same (((keepsOutside_resolveRequest _ s).trans (keepsOutside_deliver _ _ _)).settled s)

theorem completes_execRelease (r : ReqId) (t : Tag) : CompletesInside s (execRelease r t s) :=
  completes_ite
    (completes_ite (completes_next (keepsOutside_deliver _ _ _))
      (completes_next (((keepsOutside_releaseRequest r t s).trans (keepsOutside_deliver _ _ _)).settled s)))
    completes_same

theorem completes_execSlotReset (r : ReqId) : CompletesInside s (execSlotReset r s) :=
  completes_ite
    (completes_ite (completes_next (keepsOutside_deliver _ _ _))
      (completes_next ((keepsOutside_slotResetRequest r s).settled s)))
    completes_same

theorem completes_execRspTaken : CompletesInside s (execRspTaken s) := by
  unfold execRspTaken
  split
  · exact completes_next {}
  · exact completes_same
  · exact completes_same

/-! ### Clearings and deadlines (02 R38, R39, 05 R93, 07 R132) -/

theorem completes_execRequesterClearingFree (r : ReqId) : CompletesInside s (execRequesterClearingFree r s) := by
  refine completes_ite ?_ completes_same
  split
  · exact completes_next ((keepsOutside_freeClaim _ s).settled s)
  · exact completes_same

theorem completes_execRequesterClearingCompletion (r : ReqId) :
    CompletesInside s (execRequesterClearingCompletion r s) := by
  unfold execRequesterClearingCompletion
  split
  · exact completes_next {}
  · exact completes_same

theorem completes_execDiscardDeadlineExpiry (k : SlotIx) : CompletesInside s (execDiscardDeadlineExpiry k s) := by
  unfold execDiscardDeadlineExpiry
  split
  · exact completes_ite_same
      ((((keepsOutside_dropSlot k s).trans (keepsOutside_report _ _)).trans (keepsOutside_fault _ _ _)).settled s)
  · exact completes_same
  · exact completes_same

theorem completes_execDrainExpiry (p : Fin 16) : CompletesInside s (execDrainExpiry p s) := by
  unfold execDrainExpiry
  split
  · exact completes_ite_same (((keepsOutside_endDrain _ s).trans (keepsOutside_report _ _)).settled s)
  · exact completes_same

/-! ### The commit (06 R112 to R121) -/

theorem completes_execCommitValidation : CompletesInside s (execCommitValidation s) := by
  unfold execCommitValidation
  split
  · split
    · rename_i op _
      have hread := keepsOutside_readEntry .commit (opEntry op) s
      dsimp only
      split
      · exact completes_next ((hread.trans (keepsOutside_rejectCommit _ _ _ _ _ _)).settled s)
      · exact completes_next ((hread.trans (keepsOutside_putStaging _ _)).settled s)
    · exact completes_same
  · exact completes_same

theorem completes_execCommitApplication : CompletesInside s (execCommitApplication s) := by
  unfold execCommitApplication
  split
  · refine completes_ite ?_ completes_same
    split
    · exact completes_next ((keepsOutside_applyOp _ _ s).trans (keepsOutside_putStaging _ _))
    · exact completes_same
  · exact completes_same

theorem completes_execCommitCompletion : CompletesInside s (execCommitCompletion s) := by
  unfold execCommitCompletion
  split
  · exact completes_ite_same (((keepsOutside_closeCommit _ s).trans (keepsOutside_evaluateWaiting _)).settled s)
  · exact completes_same

/-! ### Walks (09 R153 to R156) -/

theorem completes_execSweepStep : CompletesInside s (execSweepStep s) := by
  unfold execSweepStep
  split
  · exact completes_same
  · split
    · exact completes_ite_same (keepsOutside_sweepStepOf _ _ s)
    · exact completes_same

theorem completes_execScrubStep : CompletesInside s (execScrubStep s) := by
  unfold execScrubStep
  split
  · exact completes_same
  · split
    · exact completes_ite_same (keepsOutside_scrubStepOf _ s)
    · exact completes_same

theorem completes_execSweepRetake : CompletesInside s (execSweepRetake s) := by
  unfold execSweepRetake
  split
  · exact completes_ite_same (keepsOutside_retake s)
  · exact completes_same

/-! ### The register window and the RESET line (11, 12 R187) -/

theorem completes_execResetAssert : CompletesInside s (execResetAssert s) :=
  completes_ite completes_same (completes_next {})

theorem keepsOutside_writeSetting (f : Settings → Settings) (s : State) : KeepsOutside s (s.writeSetting f) := by
  unfold State.writeSetting
  split
  · exact .refl s
  · exact {}

theorem keepsOutside_storeByte (a : Nat) (v : Byte) (s : State) : KeepsOutside s (s.storeByte a v) := by
  unfold State.storeByte
  split
  · exact {}
  · split
    · exact keepsOutside_writeSetting _ s
    · split
      · exact keepsOutside_writeSetting _ s
      · split
        · exact keepsOutside_writeSetting _ s
        · split
          · exact {}
          · exact .refl s

theorem keepsOutside_writeNext (v : Byte) (s : State) : KeepsOutside s (s.writeNext v) := by
  unfold State.writeNext
  split
  · exact inside_dispatch v s
  · exact (keepsOutside_storeByte _ v s).trans (keepsOutside_byteTaken _)

theorem completes_writeSetting {c : Prop} [Decidable c] (f : Settings → Settings) :
    CompletesInside s (if c then .next (s.writeSetting f).byteTaken else .next s) :=
  completes_ite_same ((keepsOutside_writeSetting f s).trans (keepsOutside_byteTaken _))

/-! ### Every row (95) -/

theorem completes_exec (c : Instr) (hc : ∀ b, c ≠ .powerOn b) : CompletesInside s (exec c s) := by
  cases c with
  | resolve r a d c => exact completes_execResolve r a d c
  | release r t => exact completes_execRelease r t
  | slotReset r => exact completes_execSlotReset r
  | malformedRequest k => exact completes_ite_same {}
  | rspTaken => exact completes_execRspTaken
  | requesterClearingFree r => exact completes_execRequesterClearingFree r
  | requesterClearingCompletion r => exact completes_execRequesterClearingCompletion r
  | quarantineDeadlineExpiry r => exact completes_ite_same {}
  | discardDeadlineExpiry k => exact completes_execDiscardDeadlineExpiry k
  | drainExpiry p => exact completes_execDrainExpiry p
  | commitValidation => exact completes_execCommitValidation
  | commitApplication => exact completes_execCommitApplication
  | commitCompletion => exact completes_execCommitCompletion
  | sweepStep => exact completes_execSweepStep
  | scrubStep => exact completes_execScrubStep
  | sweepRetake => exact completes_execSweepRetake
  | imageLoadDone => exact completes_ite_same ((keepsOutside_loadRest s).trans (keepsOutside_enterRunning _))
  | preloadReloadDone => exact completes_ite_same ((keepsOutside_loadFromPreload s).trans (keepsOutside_enterRunning _))
  | powerOn b => exact absurd rfl (hc b)
  | resetAssert => exact completes_execResetAssert
  | resetRelease => exact completes_next {}
  | batchOpen => exact completes_atCommandRegister (inside_interrupting keepsOutside_openTests)
  | batchLoad => exact completes_atCommandRegister (inside_batchCommand keepsOutside_loadTests)
  | batchCommit => exact completes_atCommandRegister (inside_batchCommand keepsOutside_commitTests)
  | batchDiscard => exact completes_atCommandRegister (inside_batchCommand keepsOutside_discardTests)
  | freezeGroup => exact completes_atCommandRegister (inside_interrupting keepsOutside_freezeGroupTests)
  | thawGroup => exact completes_atCommandRegister (inside_interrupting keepsOutside_thawGroupTests)
  | freezeAll => exact completes_atCommandRegister (inside_interrupting keepsOutside_freezeAllTests)
  | freezeRange => exact completes_atCommandRegister (inside_interrupting keepsOutside_freezeRangeTests)
  | domainSweep => exact completes_atCommandRegister (inside_interrupting keepsOutside_domainSweepTests)
  | scrub => exact completes_atCommandRegister (inside_interrupting (keepsOutside_startWalk .scrub))
  | sweepSuspend => exact completes_atCommandRegister (inside_interrupting keepsOutside_suspendTests)
  | sweepResume => exact completes_atCommandRegister (inside_interrupting keepsOutside_resumeTests)
  | sweepCancel => exact completes_atCommandRegister (inside_interrupting keepsOutside_cancelTests)
  | forceDrain => exact completes_atCommandRegister (inside_interrupting keepsOutside_forceDrainTests)
  | domainSet => exact completes_atCommandRegister (inside_interrupting keepsOutside_domainSetTests)
  | requesterSet => exact completes_atCommandRegister (inside_interrupting keepsOutside_requesterSetTests)
  | requesterReset => exact completes_atCommandRegister (inside_interrupting keepsOutside_requesterResetTests)
  | clearErrors => exact completes_atCommandRegister (inside_interrupting fun _ => {})
  | tableReset => exact completes_atCommandRegister (inside_interrupting keepsOutside_acceptTableReset)
  | fullReset => exact completes_ite_same (keepsOutside_fullResetCommand s)
  | readEntry => exact completes_atCommandRegister (inside_query keepsOutside_readEntryAnswer)
  | readClaim => exact completes_atCommandRegister (inside_query_map _ _)
  | readPending => exact completes_atCommandRegister (inside_query_map _ _)
  | readDrain => exact completes_atCommandRegister (inside_query_map _ _)
  | readRequester => exact completes_atCommandRegister (inside_query_map _ _)
  | readSweepResult => exact completes_atCommandRegister (inside_query_some _)
  | readCommitResult => exact completes_atCommandRegister (inside_query_some _)
  | undefinedCommandCode c => exact completes_ite completes_same (completes_atCommandRegister inside_undefinedCommand)
  | eventRegisterRead b => exact completes_ite_same {}
  | alertAssertedClear v => exact completes_ite_same {}
  | overrideClear v => exact completes_ite_same {}
  | overrideSet v => exact completes_ite_same {}
  | singleByteSettingWrite v => exact completes_writeSetting _
  | settingLowerByteWrite v => exact completes_writeSetting _
  | settingHigherByteWrite v => exact completes_writeSetting _
  | multiByteCaptureRead b => exact completes_ite_same {}
  | pointerSet b v => exact completes_ite_same {}
  | registerWrite b v => exact completes_ite_same (keepsOutside_writeNext v s)
  | storageDamage i e => exact completes_next {}
  | transactionEnd x => exact completes_ite_same {}

end Rows

/-! ### The statements -/

/-- Settles O3: POWER_ON brings a board of its own, and every other row leaves all three as they were. -/
theorem everyCommandCompletes : Obligations.EveryCommandCompletes := by
  intro c s
  by_cases hpower : ∃ b, c = .powerOn b
  · obtain ⟨b, rfl⟩ := hpower
    exact ⟨_, rfl, rfl, rfl, fun hnot => absurd rfl (hnot b)⟩
  · obtain ⟨t, hnext, hkept⟩ := completes_exec (s := s) c fun b hb => hpower ⟨b, hb⟩
    exact ⟨t, hnext, hkept.pending, hkept.now, fun _ => hkept.board⟩

/-- Settles O1: the front of the queue decides which branch a step takes. -/
theorem stepRunsFrontCommand : Obligations.StepRunsFrontCommand := by
  intro c rest s hfront
  unfold step
  rw [hfront]

end Sys2Proof.Machine
end
